-- ==== Sys2Proof/Word.lean ====
section
/-! DEFINITION. The plain value types of the block: bytes, levels, and the small named sets the spec's rules speak of. -/

namespace Sys2Proof

/-- A byte: TXB, RXB, LEN, a buffer element (spec/10_state.md R11, R12, R18, R20). -/
abbrev Byte := BitVec 8

/-- A 16-bit EEPROM address (R18). -/
abbrev Half := BitVec 16

/-- A line level: `false` is 0 (low), `true` is 1 (high) (spec/00_scope.md R7). -/
abbrev Level := Bool

/-- A logical bit: `false` is 0, `true` is 1 (R61). -/
abbrev Bit := Bool

/-- The direction register DIR (R27): IN or OUT. -/
inductive Dir where
  | input
  | output
  deriving DecidableEq, Repr, Inhabited

/-- The three values of BITRES (R16). -/
inductive BitRes where
  | one
  | zero
  | invalid
  deriving DecidableEq, Repr, Inhabited

/-- The two destinations a READ frame may store to (spec/42_frame_builder.md R136). -/
inductive Dest where
  | buf
  | vbuf
  deriving DecidableEq, Repr, Inhabited

/-- The five slot actions `H`, `L`, `Z`, `S`, `-` of a slot string (R8, R91). -/
inductive SlotAct where
  | high
  | low
  | release
  | sample
  | idle
  deriving DecidableEq, Repr, Inhabited

end Sys2Proof
end

