-- ==== Sys2Proof/Config.lean ====
section
/-! DEFINITION. What is fixed for the block: the constants of spec/00_scope.md R5, the parameters of R6, and the free values
the spec leaves open. -/

namespace Sys2Proof.Config

/-- R5, R74: the synchronization preamble byte. -/
def SYNC_BYTE : Byte := 0x55#8
/-- R5, R75: the device address byte, sent as it is. -/
def DEVICE_ADDRESS : Byte := 0xA0#8
/-- R5, R74: status-read. -/
def CMD_RDSR : Byte := 0x05#8
/-- R5, R74: write-enable. -/
def CMD_WREN : Byte := 0x96#8
/-- R5, R74: read. -/
def CMD_READ : Byte := 0x03#8
/-- R5, R74: write. -/
def CMD_WRITE : Byte := 0x6C#8
/-- R5: page size, the size of each buffer and the clamp of LEN. -/
def PAGE_SIZE : Nat := 16
/-- R5, R168: attempts of a READ, of a WRITE and of a verify read. -/
def MAX_ATTEMPTS : Nat := 3
/-- R5, R138: status bytes read at most in one F_POLL. -/
def POLL_CEILING : Nat := 120

/-- R5: the least bit period T_BIT, 10 µs; times are in nanoseconds (log 32). -/
def T_BIT_MIN : Nat := 10000
/-- R5: the greatest bit period T_BIT, 100 µs. -/
def T_BIT_MAX : Nat := 100000
/-- R5: the inter-frame quiet interval is at least 10 µs. -/
def T_QUIET_MIN : Nat := 10000
/-- R5: the preamble low hold is at least 5 µs. -/
def T_HDR_MIN : Nat := 5000
/-- R5: the re-synchronization high hold is at least 600 µs. -/
def T_STBY_MIN : Nat := 600000
/-- R6: tick periods in one bit period, `T_Q = T_BIT / 4`; a bit cell has that many slots (R63). -/
def TICKS_PER_BIT : Nat := 4
/-- R6: the width of the host length register LEN, a `Byte` in State. -/
def LEN_WIDTH : Nat := 8

/-- The parameters of R6 (U20 to U22 of spec/93): hardwired in one block (R29), open between blocks.
They are held in State so that a statement about every state is a statement about every choice of them. -/
structure Params where
  /-- QUIET_TICKS: tick periods the line is held high before a preamble. -/
  quietTicks : Nat
  /-- HDR_LOW_TICKS: tick periods the line is held low in a preamble. -/
  hdrLowTicks : Nat
  /-- STANDBY_TICKS: tick periods the line is held high in a re-synchronization pulse. -/
  standbyTicks : Nat
  /-- MAK_BIT: the logical bit sent as the affirmative master acknowledge. -/
  makBit : Bit
  /-- RX_ONE_PAIR: the sample pair that decodes to logical 1. -/
  rxOnePair : Level × Level
  /-- WIP_MASK: the write-in-progress bit of a status byte, 0x01 (R6, U22). DESIGN CHOICE (log 33): any byte is admitted, also one of
  no bit or of several. -/
  wipMask : Byte
  /-- VERIFY_USES_READ_STATUS (OPEN): whether a verify also needs the read-back to have succeeded. -/
  verifyUsesReadStatus : Bool
  deriving DecidableEq, Repr

/-- The limits of R6 that ask nothing of time: each count at least 1, and RX_ONE_PAIR a pair `(v, NOT v)` (R62). The
statements need no more than these. DESIGN CHOICE (log 33): WIP_MASK and MAK_BIT are any values, RX_ONE_PAIR either such pair. -/
def Params.sound (p : Params) : Bool :=
  decide (1 ≤ p.quietTicks) && decide (1 ≤ p.hdrLowTicks) && decide (1 ≤ p.standbyTicks) &&
    decide (p.rxOnePair.2 = !p.rxOnePair.1)

/-- R5: a bit period the tick source may be configured to (R232). -/
def bitPeriodLegal (tBit : Nat) : Bool := decide (T_BIT_MIN ≤ tBit) && decide (tBit ≤ T_BIT_MAX)

/-- `count * T_Q >= minimum`, with `T_Q = T_BIT / 4` (R6), written without the division. -/
def lasts (count tBit minimum : Nat) : Bool := decide (minimum * TICKS_PER_BIT ≤ count * tBit)

/-- The legal values of R6 at a bit period: the limits above, and each count long enough for its minimum time of R5.
DESIGN CHOICE (log 33): no condition on WIP_MASK, for which R6 gives the one value 0x01. -/
def Params.legal (p : Params) (tBit : Nat) : Bool :=
  p.sound && bitPeriodLegal tBit && lasts p.quietTicks tBit T_QUIET_MIN && lasts p.hdrLowTicks tBit T_HDR_MIN &&
    lasts p.standbyTicks tBit T_STBY_MIN

/-- FREE VALUE (log 4): the OPEN parameter VERIFY_USES_READ_STATUS of R6. -/
opaque verifyUsesReadStatus : Bool

/-- The values the spec takes for the parameters (R6): 4, 2, 240, 1, (1,0), 0x01, and the open one left open. -/
def defaultParams : Params where
  quietTicks := 4
  hdrLowTicks := 2
  standbyTicks := 240
  makBit := true
  rxOnePair := (true, false)
  wipMask := 0x01#8
  verifyUsesReadStatus := verifyUsesReadStatus

/-- FREE VALUE (log 7): the level `Sample()` returns where the environment's answer is not given in State
(R94, U10: "any value"). -/
opaque freeLevel : Nat → Level

/-- FREE VALUE (log 12, 25): a byte the spec leaves unspecified. -/
opaque freeByte : Nat → Byte

/-- FREE VALUE (log 12): a 16-bit value the spec leaves unspecified. -/
opaque freeHalf : Nat → Half

/-- FREE VALUE (log 12, 25): a one-bit value the spec leaves unspecified. -/
opaque freeBit : Nat → Bool

/-- FREE VALUE (log 12): an operation code the spec leaves unspecified. -/
opaque freeOp : Nat → BitVec 2

/-- FREE VALUE (log 12): a bit-read outcome the spec leaves unspecified. -/
opaque freeBitRes : Nat → BitRes

/-- FREE VALUE (log 12): a clamped length the spec leaves unspecified; R19 limits N to 0..16. -/
opaque freeLength : Nat → Fin 17

end Sys2Proof.Config
end

