-- ==== Sys2Proof/Syntax.lean ====
section
/-! DEFINITION. The instructions: one constructor per row of spec/opcode_table.json, in the table's order. -/

namespace Sys2Proof

/-- The operations of the four layers and of the host (46 rows). -/
inductive Instr where
  /-- WAITTICK (R90). -/
  | waittick
  /-- SLOT (R91): one consumed tick and one action. -/
  | slot (a : SlotAct)
  /-- DRIVE_HIGH (R92): `Drive(1)`. -/
  | driveHigh
  /-- DRIVE_LOW (R92): `Drive(0)`. -/
  | driveLow
  /-- RELEASE (R93). -/
  | release
  /-- SAMPLE (R94). -/
  | sample
  /-- NOACTION (R91, the action `-`). -/
  | noaction
  /-- CLEARTICK (R95). -/
  | cleartick
  /-- TXBIT (R96): a cell that sends the logical bit `b`. -/
  | txbit (b : Bit)
  /-- TXBIT_1 (R96). -/
  | txbitOne
  /-- TXBIT_0 (R96). -/
  | txbitZero
  /-- RXBIT (R97): a cell that takes the line's two samples. -/
  | rxbit
  /-- RXBIT_ONE (R97): a received cell whose samples are RX_ONE_PAIR. -/
  | rxbitOne
  /-- RXBIT_ZERO (R97): a received cell whose samples are its complement. -/
  | rxbitZero
  /-- RXBIT_INVALID_LL (R97): a received cell whose samples are (0,0). -/
  | rxbitInvalidLL
  /-- RXBIT_INVALID_HH (R97): a received cell whose samples are (1,1). -/
  | rxbitInvalidHH
  /-- MAK (R65): the affirmative master acknowledge cell. -/
  | mak
  /-- NOMAK (R65): the negative master acknowledge cell. -/
  | nomak
  /-- SAK (R66): a slave cell that acknowledges. -/
  | sak
  /-- TXBYTE (R110): a checked byte frame that sends `v`. -/
  | txbyte (v : Byte)
  /-- TXBYTE_SYNC (R117): the synchronization byte frame, its slave cell unsampled. -/
  | txbyteSync
  /-- RXBYTE (R111). -/
  | rxbyte
  /-- ACKX (R112), its slave cell sampled when `check`. -/
  | ackx (check : Bool)
  /-- SYNC_BYTE (R74): byte 0 of every frame. -/
  | syncByte
  /-- DEVICE_ADDRESS (R75): byte 1 of every frame. -/
  | deviceAddress
  /-- CMD_RDSR (R74): byte 2 of F_PRESENCE and F_POLL. -/
  | cmdRdsr
  /-- CMD_WREN (R74): byte 2 of F_WREN. -/
  | cmdWren
  /-- CMD_READ (R74): byte 2 of F_READ. -/
  | cmdRead
  /-- CMD_WRITE (R74): byte 2 of F_WRITE. -/
  | cmdWrite
  /-- FSTART (R130). -/
  | fstart
  /-- FEND (R131). -/
  | fend
  /-- SPULSE (R132). -/
  | spulse
  /-- ADDRESSED (R135): command byte, its master acknowledge, and whether the address follows. -/
  | addressed (c : Byte) (mc : Bool) (withAddr : Bool)
  /-- F_PRESENCE (R133). -/
  | fPresence
  /-- F_WREN (R134). -/
  | fWren
  /-- F_READ (R136) into `dest`. -/
  | fRead (dest : Dest)
  /-- F_WRITE (R137). -/
  | fWrite
  /-- F_POLL (R138). -/
  | fPoll
  /-- PRESENCE (R162), with the LEN and ADDR fields of its command word (R79). -/
  | presence (len : Byte) (addr : Half)
  /-- READ (R163). -/
  | read (len : Byte) (addr : Half)
  /-- WRITE (R164). -/
  | write (len : Byte) (addr : Half)
  /-- STANDBY (R165). -/
  | standby (len : Byte) (addr : Half)
  /-- START (R160): the host's pulse, with OP, ADDR and LEN as the registers hold them. -/
  | start
  /-- READCORE (R166) into `dest`, counted by ATT for BUF and by VATT for VBUF. -/
  | readcore (dest : Dest)
  /-- VERIFY (R167). -/
  | verify
  /-- LINKRESET (spec/10_state.md R33). -/
  | linkreset
  deriving DecidableEq, Repr

end Sys2Proof
end

