-- ==== Sys2Proof/WellFormed.lean ====
section
/-! DEFINITION. Which instructions are well formed: the limits the spec puts on an instruction's operands. -/

namespace Sys2Proof

/-- R74: the four command bytes; "No other command byte exists in the block." -/
def isCommand (c : Byte) : Bool :=
  c == Config.CMD_RDSR || c == Config.CMD_WREN || c == Config.CMD_READ || c == Config.CMD_WRITE

/-- R77: the master acknowledge of a command byte: NoMAK for write-enable, MAK for the others. -/
def commandMak (c : Byte) : Bool := c != Config.CMD_WREN

/-- R67, opcode table row ADDRESSED: address bytes are "present only with 0x03 and 0x6C". -/
def commandTakesAddress (c : Byte) : Bool := c == Config.CMD_READ || c == Config.CMD_WRITE

/-- An ADDRESSED part names one of the four commands, its acknowledge and its address bytes as R67, R74 and R77 fix them.
No other instruction has an operand the spec limits. -/
def Instr.wf : Instr → Bool
  | .addressed c mc withAddr =>
    isCommand c && (mc == commandMak c) && (withAddr == commandTakesAddress c)
  | .waittick | .slot _ | .driveHigh | .driveLow | .release | .sample | .noaction | .cleartick | .txbit _
  | .txbitOne | .txbitZero | .rxbit | .rxbitOne | .rxbitZero | .rxbitInvalidLL | .rxbitInvalidHH | .mak | .nomak
  | .sak | .txbyte _ | .txbyteSync | .rxbyte | .ackx _ | .syncByte | .deviceAddress | .cmdRdsr | .cmdWren
  | .cmdRead | .cmdWrite | .fstart | .fend | .spulse | .fPresence | .fWren | .fRead _ | .fWrite | .fPoll
  | .presence _ _ | .read _ _ | .write _ _ | .standby _ _ | .start | .readcore _ | .verify | .linkreset => true

end Sys2Proof
end

