-- ==== Sys2Proof/Decode.lean ====
section
/-! DEFINITION. The encodings of spec/30_encoding.md and spec/opcode_table.json: the code words, the decoder, the encoder, and
the decoder of a table word. -/

namespace Sys2Proof

/-- The table's column "format": the level and kind a pattern belongs to (R60). One pattern of bits stands in several
formats (`10` is TXBIT_0, RXBIT_ONE and SAK), so a code word names its format. `named` holds the rows to which the table
gives no pattern; it is the model's own (log 19). -/
inductive Format where
  | named
  | slot
  | cellTx
  | cellRx
  | ackMaster
  | ackSlave
  | byteframeTx
  | byteframeRx
  | byteframeAck
  | byte
  | framePart
  | frame
  | hostop
  deriving DecidableEq, Repr

/-- A code word: `width` bits, the pattern's leftmost bit the most significant, as the table numbers them.
`aux` carries what a row distinguishes and no bit of its pattern says (log 19): the generic row TXBIT or RXBIT (1) against
the row of one symbol (0); the unsampled slave cell `z` (1) against the sampled one `s` (0); the destination of F_READ and
READCORE (0 BUF, 1 VBUF). -/
structure Code where
  format : Format
  width : Nat
  word : Nat
  aux : Nat
  deriving DecidableEq, Repr

/-- Why a code word is no instruction. -/
inductive DecodeError where
  /-- The word has a bit above its width. -/
  | tooWide
  /-- The format has no row of this width. -/
  | wrongWidth
  /-- `aux` selects nothing in this format. -/
  | badSelector
  /-- Not one of `H L Z S -`. -/
  | notASlotCharacter
  /-- Two equal half levels are no transmitted symbol (R61). -/
  | notATransmitCell
  /-- A slave cell other than (1,0) is a missing acknowledge (R66). -/
  | missingAcknowledge
  /-- The framed byte is not the synchronization byte with MAK (R117). -/
  | notTheSyncFrame
  /-- Not one of the six byte values of R74. -/
  | unknownByte
  /-- The frame's fixed cells fit no frame of R68 to R72. -/
  | unknownFrame
  /-- The command byte, its acknowledge or its address bytes are not as R74 and R77 have them. -/
  | unknownCommand
  /-- No row of the table without a pattern has this number. -/
  | unknownRow
  deriving DecidableEq, Repr

/-- A letter of a pattern: a bit that a register, the environment or the data supplies, and the decoder does not read. -/
def anyBit : Nat := 2

/-- A word against a pattern given from its last bit to its first. -/
def patternFits : List Nat → Nat → Bool
  | [], w => w == 0
  | p :: ps, w => (p == anyBit || w % 2 == p) && patternFits ps (w / 2)

/-- The number a pattern stands for, given from its last bit to its first, every letter 0. -/
def patternWord : List Nat → Nat
  | [] => 0
  | p :: ps => p % 2 + 2 * patternWord ps

/-- Eight letters. -/
def letters8 : List Nat := [2, 2, 2, 2, 2, 2, 2, 2]
/-- R67: `010101011z`, the synchronization byte, MAK, an unsampled cell. -/
def cellsSync : List Nat := [0, 1, 0, 1, 0, 1, 0, 1, 1, 2]
/-- R68 to R72: `101000001s`, the device address byte, MAK, a checked cell. -/
def cellsDevice : List Nat := [1, 0, 1, 0, 0, 0, 0, 0, 1, 2]
/-- `000001011s`: status-read, MAK. -/
def cellsRdsr : List Nat := [0, 0, 0, 0, 0, 1, 0, 1, 1, 2]
/-- `100101100s`: write-enable, NoMAK. -/
def cellsWren : List Nat := [1, 0, 0, 1, 0, 1, 1, 0, 0, 2]
/-- `000000111s`: read, MAK. -/
def cellsRead : List Nat := [0, 0, 0, 0, 0, 0, 1, 1, 1, 2]
/-- `011011001s`: write, MAK. -/
def cellsWrite : List Nat := [0, 1, 1, 0, 1, 1, 0, 0, 1, 2]
/-- `hhhhhhhh1s` or `llllllll1s`: an address byte, MAK. -/
def cellsAddr : List Nat := letters8 ++ [1, 2]

/-- R68, the table's row F_PRESENCE: `010101011z101000001s000001011srrrrrrrr0s`. -/
def patPresence : List Nat := cellsSync ++ cellsDevice ++ cellsRdsr ++ letters8 ++ [0, 2]
/-- R69: `010101011z101000001s100101100s`. -/
def patWren : List Nat := cellsSync ++ cellsDevice ++ cellsWren
/-- R70: `010101011z101000001s000000111shhhhhhhh1sllllllll1srrrrrrrrms`, one payload group as the table writes it. -/
def patRead : List Nat := cellsSync ++ cellsDevice ++ cellsRead ++ cellsAddr ++ cellsAddr ++ letters8 ++ [2, 2]
/-- R71: `010101011z101000001s011011001shhhhhhhh1sllllllll1sddddddddms`. -/
def patWrite : List Nat := cellsSync ++ cellsDevice ++ cellsWrite ++ cellsAddr ++ cellsAddr ++ letters8 ++ [2, 2]
/-- R72: `010101011z101000001s000001011srrrrrrrr1s`. -/
def patPoll : List Nat := cellsSync ++ cellsDevice ++ cellsRdsr ++ letters8 ++ [1, 2]

/-- R8: the characters of a slot string. -/
def decodeSlot (w : Nat) : Except DecodeError Instr :=
  if w = 0x48 then .ok (.slot .high)
  else if w = 0x4C then .ok (.slot .low)
  else if w = 0x5A then .ok (.slot .release)
  else if w = 0x53 then .ok (.slot .sample)
  else if w = 0x2D then .ok (.slot .idle)
  else .error .notASlotCharacter

/-- R61: the transmitted symbol `nb`, `n = NOT b`. -/
def decodeCellTx (w aux : Nat) : Except DecodeError Instr :=
  if w = 1 then (if aux = 0 then .ok .txbitOne else if aux = 1 then .ok (.txbit true) else .error .badSelector)
  else if w = 2 then (if aux = 0 then .ok .txbitZero else if aux = 1 then .ok (.txbit false) else .error .badSelector)
  else .error .notATransmitCell

/-- R62: the received symbol `pq`. -/
def decodeCellRx (w aux : Nat) : Except DecodeError Instr :=
  if aux = 1 then .ok .rxbit
  else if aux ≠ 0 then .error .badSelector
  else if w = 0 then .ok .rxbitInvalidLL
  else if w = 1 then .ok .rxbitZero
  else if w = 2 then .ok .rxbitOne
  else .ok .rxbitInvalidHH

/-- R64, R117: the byte frames the block transmits. -/
def decodeByteframeTx (w aux : Nat) : Except DecodeError Instr :=
  if aux = 0 then .ok (.txbyte (BitVec.ofNat 8 (w / 4)))
  else if aux = 1 then
    (if patternFits cellsSync.reverse w then .ok .txbyteSync else .error .notTheSyncFrame)
  else .error .badSelector

/-- R74: the byte values with a fixed position in a frame. -/
def decodeByte (w : Nat) : Except DecodeError Instr :=
  if w = 0x55 then .ok .syncByte
  else if w = 0xA0 then .ok .deviceAddress
  else if w = 0x05 then .ok .cmdRdsr
  else if w = 0x96 then .ok .cmdWren
  else if w = 0x03 then .ok .cmdRead
  else if w = 0x6C then .ok .cmdWrite
  else .error .unknownByte

/-- R135: the addressed part, refused where its command, acknowledge or address bytes are not as R74 and R77 have them. -/
def decodeAddressed (width w : Nat) : Except DecodeError Instr :=
  if width = 20 then
    (let i : Instr := .addressed (BitVec.ofNat 8 (w / 4)) (w / 2 % 2 == 1) false
     if w / 2048 = 0x141 ∧ i.wf = true then .ok i else .error .unknownCommand)
  else if width = 40 then
    (let i : Instr := .addressed (BitVec.ofNat 8 (w / 4194304)) (w / 2097152 % 2 == 1) true
     if w / 2147483648 = 0x141 ∧ w / 2048 % 2 = 1 ∧ w / 2 % 2 = 1 ∧ i.wf = true then .ok i else .error .unknownCommand)
  else .error .wrongWidth

/-- R68 to R72: a frame is told by its width and its fixed cells. -/
def decodeFrame (width w aux : Nat) : Except DecodeError Instr :=
  if width = 30 then
    (if patternFits patWren.reverse w then .ok .fWren else .error .unknownFrame)
  else if width = 40 then
    (if patternFits patPresence.reverse w then .ok .fPresence
     else if patternFits patPoll.reverse w then .ok .fPoll else .error .unknownFrame)
  else if width = 60 then
    (if patternFits patRead.reverse w then
       (if aux = 0 then .ok (.fRead .buf) else if aux = 1 then .ok (.fRead .vbuf) else .error .badSelector)
     else if patternFits patWrite.reverse w then .ok .fWrite else .error .unknownFrame)
  else .error .wrongWidth

/-- R79: `OP[1:0] :: LEN[7:0] :: ADDR[15:0]`; all four operation codes are assigned (R80). -/
def decodeHostop (w : Nat) : Instr :=
  let len : Byte := BitVec.ofNat 8 (w / 65536)
  let addr : Half := BitVec.ofNat 16 w
  if w / 16777216 = 0 then .presence len addr
  else if w / 16777216 = 1 then .read len addr
  else if w / 16777216 = 2 then .write len addr
  else .standby len addr

/-- The rows without a pattern, by their number in spec/opcode_table.json, counted from 0 (log 19). -/
def decodeNamed (w aux : Nat) : Except DecodeError Instr :=
  if w = 43 then
    (if aux = 0 then .ok (.readcore .buf) else if aux = 1 then .ok (.readcore .vbuf) else .error .badSelector)
  else if aux ≠ 0 then .error .badSelector
  else if w = 0 then .ok .waittick
  else if w = 2 then .ok .driveHigh
  else if w = 3 then .ok .driveLow
  else if w = 4 then .ok .release
  else if w = 5 then .ok .sample
  else if w = 6 then .ok .noaction
  else if w = 7 then .ok .cleartick
  else if w = 29 then .ok .fstart
  else if w = 30 then .ok .fend
  else if w = 31 then .ok .spulse
  else if w = 42 then .ok .start
  else if w = 44 then .ok .verify
  else if w = 45 then .ok .linkreset
  else .error .unknownRow

/-- A format's rows of one width, or the refusal. -/
def ofWidth (width want : Nat) (r : Except DecodeError Instr) : Except DecodeError Instr :=
  if width = want then r else .error .wrongWidth

/-- The decoder: total on every code word, refusing by name. -/
def decode (c : Code) : Except DecodeError Instr :=
  if 2 ^ c.width ≤ c.word then .error .tooWide
  else match c.format with
    | .named => ofWidth c.width 8 (decodeNamed c.word c.aux)
    | .slot => ofWidth c.width 8 (decodeSlot c.word)
    | .cellTx => ofWidth c.width 2 (decodeCellTx c.word c.aux)
    | .cellRx => ofWidth c.width 2 (decodeCellRx c.word c.aux)
    | .ackMaster => ofWidth c.width 1 (if c.word = 1 then .ok .mak else .ok .nomak)
    | .ackSlave => ofWidth c.width 2 (if c.word = 2 then .ok .sak else .error .missingAcknowledge)
    | .byteframeTx => ofWidth c.width 10 (decodeByteframeTx c.word c.aux)
    | .byteframeRx => ofWidth c.width 10 (.ok .rxbyte)
    | .byteframeAck =>
      ofWidth c.width 2
        (if c.aux = 0 then .ok (.ackx true) else if c.aux = 1 then .ok (.ackx false) else .error .badSelector)
    | .byte => ofWidth c.width 8 (decodeByte c.word)
    | .framePart => decodeAddressed c.width c.word
    | .frame => decodeFrame c.width c.word c.aux
    | .hostop => ofWidth c.width 26 (.ok (decodeHostop c.word))

/-- The slot character of an action (R8). -/
def slotChar : SlotAct → Nat
  | .high => 0x48
  | .low => 0x4C
  | .release => 0x5A
  | .sample => 0x53
  | .idle => 0x2D

/-- The selector of a destination. -/
def destAux : Dest → Nat
  | .buf => 0
  | .vbuf => 1

/-- A row without a pattern. -/
def namedCode (row : Nat) : Code := ⟨.named, 8, row, 0⟩

/-- A command word of R79. -/
def hostCode (op : Nat) (len : Byte) (addr : Half) : Code :=
  ⟨.hostop, 26, op * 16777216 + len.toNat * 65536 + addr.toNat, 0⟩

/-- The encoder: the code word of an instruction, every letter of its pattern that is no operand written 0. -/
def encode : Instr → Code
  | .waittick => namedCode 0
  | .slot a => ⟨.slot, 8, slotChar a, 0⟩
  | .driveHigh => namedCode 2
  | .driveLow => namedCode 3
  | .release => namedCode 4
  | .sample => namedCode 5
  | .noaction => namedCode 6
  | .cleartick => namedCode 7
  | .txbit b => ⟨.cellTx, 2, if b then 1 else 2, 1⟩
  | .txbitOne => ⟨.cellTx, 2, 1, 0⟩
  | .txbitZero => ⟨.cellTx, 2, 2, 0⟩
  | .rxbit => ⟨.cellRx, 2, 0, 1⟩
  | .rxbitOne => ⟨.cellRx, 2, 2, 0⟩
  | .rxbitZero => ⟨.cellRx, 2, 1, 0⟩
  | .rxbitInvalidLL => ⟨.cellRx, 2, 0, 0⟩
  | .rxbitInvalidHH => ⟨.cellRx, 2, 3, 0⟩
  | .mak => ⟨.ackMaster, 1, 1, 0⟩
  | .nomak => ⟨.ackMaster, 1, 0, 0⟩
  | .sak => ⟨.ackSlave, 2, 2, 0⟩
  | .txbyte v => ⟨.byteframeTx, 10, v.toNat * 4, 0⟩
  | .txbyteSync => ⟨.byteframeTx, 10, patternWord cellsSync.reverse, 1⟩
  | .rxbyte => ⟨.byteframeRx, 10, 0, 0⟩
  | .ackx check => ⟨.byteframeAck, 2, 0, if check then 0 else 1⟩
  | .syncByte => ⟨.byte, 8, Config.SYNC_BYTE.toNat, 0⟩
  | .deviceAddress => ⟨.byte, 8, Config.DEVICE_ADDRESS.toNat, 0⟩
  | .cmdRdsr => ⟨.byte, 8, Config.CMD_RDSR.toNat, 0⟩
  | .cmdWren => ⟨.byte, 8, Config.CMD_WREN.toNat, 0⟩
  | .cmdRead => ⟨.byte, 8, Config.CMD_READ.toNat, 0⟩
  | .cmdWrite => ⟨.byte, 8, Config.CMD_WRITE.toNat, 0⟩
  | .fstart => namedCode 29
  | .fend => namedCode 30
  | .spulse => namedCode 31
  | .addressed c mc withAddr =>
    if withAddr then
      ⟨.framePart, 40, 0x141 * 2147483648 + c.toNat * 4194304 + (if mc then 2097152 else 0) + 2048 + 2, 0⟩
    else ⟨.framePart, 20, 0x141 * 2048 + c.toNat * 4 + (if mc then 2 else 0), 0⟩
  | .fPresence => ⟨.frame, 40, patternWord patPresence.reverse, 0⟩
  | .fWren => ⟨.frame, 30, patternWord patWren.reverse, 0⟩
  | .fRead dest => ⟨.frame, 60, patternWord patRead.reverse, destAux dest⟩
  | .fWrite => ⟨.frame, 60, patternWord patWrite.reverse, 0⟩
  | .fPoll => ⟨.frame, 40, patternWord patPoll.reverse, 0⟩
  | .presence len addr => hostCode 0 len addr
  | .read len addr => hostCode 1 len addr
  | .write len addr => hostCode 2 len addr
  | .standby len addr => hostCode 3 len addr
  | .start => namedCode 42
  | .readcore dest => { namedCode 43 with aux := destAux dest }
  | .verify => namedCode 44
  | .linkreset => namedCode 45

/-- The formats and widths a table word of `nbits` bits (a row's bits in whole bytes) is tried in, in this order (log 20):
one pattern of bits stands in several rows, and the words of one number decode to the first row they fit. -/
def tableFormats (nbits : Nat) : List (Format × Nat × Nat) :=
  if nbits = 1 then [(.ackMaster, 1, 0)]
  else if nbits = 2 then [(.cellTx, 2, 0), (.cellRx, 2, 0)]
  else if nbits = 8 then [(.byte, 8, 0), (.cellTx, 2, 0), (.cellRx, 2, 0)]
  else if nbits = 10 ∨ nbits = 16 then [(.byteframeTx, 10, 1), (.byteframeTx, 10, 0)]
  else if nbits = 20 ∨ nbits = 24 then [(.framePart, 20, 0)]
  else if nbits = 26 ∨ nbits = 30 ∨ nbits = 32 then [(.hostop, 26, 0), (.frame, 30, 0)]
  else if nbits = 40 then [(.frame, 40, 0), (.framePart, 40, 0)]
  else if nbits = 60 ∨ nbits = 64 then [(.frame, 60, 0)]
  else []

/-- The first code word of the list that decodes. -/
def firstDecoded (w : Nat) : List (Format × Nat × Nat) → Option Instr
  | [] => none
  | (f, width, aux) :: rest =>
    match decode ⟨f, width, w, aux⟩ with
    | .ok i => some i
    | .error _ => firstDecoded w rest

/-- The instruction of a table word: the bits as spec/opcode_table.json numbers them, `nbits` a row's bits in whole bytes. -/
def decodeTableWord (nbits w : Nat) : Option Instr := firstDecoded w (tableFormats nbits)

end Sys2Proof
end

