-- ==== Sys2Proof/Machine/State.lean ====
section
/-! DEFINITION. The state of the block and of what its rules depend on outside it (spec/10_state.md), as plain data, the
reasons a step can stop, and the state after reset. -/

namespace Sys2Proof.Machine

open Sys2Proof

/-- A local buffer, BUF or VBUF (spec/20_memory.md R40): the bytes something has written, by rising index.
An index that is not listed has not been written and reads as no value (log 6). -/
abbrev Memory := List Host.Cell

/-- SEQ.TOP (R26). -/
inductive Top where
  | idle
  | presence
  | read
  | write
  | verify
  | standby
  deriving DecidableEq, Repr

/-- SEQ.FRAME (R26). -/
inductive FrameKind where
  | none
  | presence
  | wren
  | read
  | write
  | poll
  | spulse
  deriving DecidableEq, Repr

/-- SEQ.FST (R26, R139). -/
inductive FrameStep where
  | idle
  | quiet
  | lowhold
  | sync
  | devaddr
  | command
  | addrh
  | addrl
  | payload
  | endStep
  | pulse
  deriving DecidableEq, Repr

/-- The fields of SEQ (R26). -/
structure Seq where
  top : Top
  /-- ATT: attempts of the READ or WRITE already started. -/
  att : Nat
  /-- VATT: attempts of the verify read already started. -/
  vatt : Nat
  frame : FrameKind
  fst : FrameStep
  /-- IDX: payload byte index. -/
  idx : Nat
  /-- PCNT: status bytes read so far in the current F_POLL. -/
  pcnt : Nat
  /-- CELL: bit cell inside the byte. -/
  cell : Fin 10
  /-- PH: slot inside the bit cell. -/
  ph : Fin 4
  /-- WAIT: slots still to spend in QUIET, LOWHOLD or PULSE. -/
  wait : Nat
  deriving DecidableEq, Repr

/-- SEQ idle (R32, R161, R213): TOP = IDLE, FRAME = NONE, FST = IDLE, all counters 0. -/
def Seq.idle : Seq where
  top := .idle
  att := 0
  vatt := 0
  frame := .none
  fst := .idle
  idx := 0
  pcnt := 0
  cell := 0
  ph := 0
  wait := 0

/-- The zero-time steps of the rules' pseudocode that are no row of the opcode table: what happens between two slots. -/
inductive ZeroStep where
  /-- SEQ.PH becomes `p` (R26, R63). -/
  | phase (p : Fin 4)
  /-- SEQ.CELL becomes `c` (R26, R64). -/
  | cell (c : Fin 10)
  /-- SEQ.FST becomes `f` (R139). -/
  | frameStep (f : FrameStep)
  /-- The frame or pulse is over: FST = IDLE, FRAME = NONE (R139). -/
  | frameDone
  /-- WAIT becomes `n` (R130, R132). -/
  | setWait (n : Nat)
  /-- One slot of the interval is spent: `WAIT <- WAIT - 1` (R83). -/
  | waitDown
  /-- The repeat of R130 and R132: another `Slot(-)` while WAIT is not 0. -/
  | hold
  /-- `TxBit(TXB[7])` (R110). -/
  | txData
  /-- `TXB <- (TXB << 1)[7:0]` (R110). -/
  | txShift
  /-- `RXB <- (RXB << 1)[7:0] OR d` (R111). -/
  | rxShift
  /-- `S1 <- ` the level just sampled (R97). -/
  | latchS1
  /-- `S2 <- ` the level just sampled (R97). -/
  | latchS2
  /-- The judgement of the pair (R97). -/
  | judge
  /-- `if BITRES != ONE: CERR <- 1` (R112, R114). -/
  | slaveCheck
  /-- `if LERR = 1: CERR <- 1` (R112, R113). -/
  | escalate
  /-- `MAKF <- b` (R116). -/
  | makf (b : Bool)
  /-- `PRES <- NOT CERR` (R133). -/
  | latchPres
  /-- The payload of F_READ and F_WRITE begins: `IDX <- 0` (R139). -/
  | payload
  /-- Payload byte IDX of F_READ (R136). -/
  | readByte (d : Dest)
  /-- `dest[IDX] <- RXB`, and the next payload byte if one is planned (R136). -/
  | readNext (d : Dest)
  /-- Payload byte IDX of F_WRITE (R137). -/
  | writeByte
  /-- The next payload byte of F_WRITE if one is planned (R137). -/
  | writeNext
  /-- `PCNT <- 0` (R138). -/
  | pollStart
  /-- One status read of F_POLL (R138). -/
  | pollByte
  /-- The exit tests of F_POLL (R138). -/
  | pollTest
  /-- `LOCK <- b` (R169). -/
  | lock (b : Bool)
  /-- The loop of ReadCore (R166): another attempt, or the zero fill. -/
  | readAttempt (d : Dest)
  /-- The decision after an attempt of ReadCore (R166). -/
  | readDecide (d : Dest)
  /-- The compare of Verify (R167). -/
  | compare
  /-- The loop of Write (R164): another attempt, or failure. -/
  | writeAttempt
  /-- The decision after F_POLL (R164). -/
  | writeDecide
  /-- The decision after Verify (R164). -/
  | verifyDecide
  /-- `RESULT <- PRES; complete` (R162). -/
  | finishPresence
  /-- `RESULT <- ` ReadCore's result; complete (R163). -/
  | finishRead
  /-- complete, RESULT not written (R165). -/
  | finishStandby
  deriving DecidableEq, Repr

/-- One position of the plan still to be run. -/
inductive Micro where
  /-- An operation of the opcode table. -/
  | op (i : Instr)
  /-- A zero-time step. -/
  | act (z : ZeroStep)
  /-- A table word given from outside, to be decoded when it is reached (log 21). -/
  | word (nbits w : Nat)
  deriving DecidableEq, Repr

/-- What the host may do (spec/60_exceptions.md R219, spec/70 R230, R232). -/
inductive HostAction where
  | writeOp (v : BitVec 2)
  | writeAddr (v : Half)
  | writeLen (v : Byte)
  | writeBuf (i : Nat) (v : Byte)
  | readBuf (i : Nat)
  | readResult
  | readBusy
  | readLock
  | start
  | reset
  /-- The tick source is configured to a quarter of this bit period (R232, R239). -/
  | configureTick (tBit : Nat)
  deriving DecidableEq, Repr

/-- Which agent moves (log 9). -/
inductive Move where
  /-- The sequencer, the block's only agent (R50). -/
  | sequencer
  /-- The tick source sets the flag (R214). -/
  | tick
  /-- The tick source stops delivering ticks (R241). -/
  | tickStop
  /-- The host acts (R219). -/
  | host (a : HostAction)
  deriving DecidableEq, Repr

/-- One slot of the slot trace (R8): the action taken, and for a sample slot the level sampled. -/
inductive SlotRec where
  | high
  | low
  | release
  | sample (v : Level)
  | idle
  deriving DecidableEq, Repr

/-- The state: the elements of R10, the environment's state of R30 that the block observes, and the model's own fields. -/
structure State where
  /-- TXB (R11). -/
  txb : Byte
  /-- RXB (R12). -/
  rxb : Byte
  /-- MAKF (R13). -/
  makf : Bool
  /-- LERR (R14). -/
  lerr : Bool
  /-- CERR (R15). -/
  cerr : Bool
  /-- BITRES (R16). -/
  bitres : BitRes
  /-- PRES (R17). -/
  pres : Bool
  /-- RESULT (R24). -/
  result : Bool
  /-- OP (R18). -/
  op : BitVec 2
  /-- ADDR (R18). -/
  addr : Half
  /-- LEN (R18). -/
  len : Byte
  /-- N (R19). -/
  n : Nat
  /-- BUF (R20). -/
  buf : Memory
  /-- VBUF (R21). -/
  vbuf : Memory
  /-- BUSY (R23). -/
  busy : Bool
  /-- LOCK (R22). -/
  lock : Bool
  /-- DIR (R27). -/
  dir : Dir
  /-- LVL (R27). -/
  lvl : Level
  /-- S1 (R28). -/
  s1 : Level
  /-- S2 (R28). -/
  s2 : Level
  /-- SEQ and its counters (R25, R26). -/
  seq : Seq
  /-- SEQ in the form of a continuation (R26 allows "a continuation, a list of remaining slots"): what is still to be run. -/
  plan : List Micro
  /-- The hardwired parameters (R6, R29). -/
  params : Config.Params
  /-- The environment's tick-pending flag (R30 a, R214). -/
  tickPending : Bool
  /-- The environment: whether the tick source is configured and delivers ticks (R232, R241). -/
  tickOn : Bool
  /-- The environment: the bit period T_BIT the tick source is configured to, in nanoseconds (R5, R232, log 32). -/
  bitPeriod : Nat
  /-- The environment: the levels the line will answer to the next samples, oldest first (R30 b, R94). -/
  samples : List Level
  /-- The model's own: the agents' moves still to come, oldest first (log 9). -/
  schedule : List Move
  /-- The model's own: the level the last `Sample()` returned (R94), consumed at once by its caller. -/
  sampleOut : Level
  /-- The model's own: the boolean the last ReadCore or Verify returned (R166, R167), consumed at once by its caller. -/
  callOk : Bool
  /-- The model's own: what the host's last read saw (R41, R219). -/
  hostData : Byte
  /-- The model's own: the slot trace so far, newest first (R8, R50). -/
  wire : List SlotRec
  /-- The model's own: the number of the next free value (log 7). -/
  free : Nat
  deriving DecidableEq, Repr

/-- Why the machine stops with a fault. -/
inductive Fault where
  /-- A read of BUF[i] or VBUF[i] that nothing has written (R32, C10, U15: "fault on a read before a write").
  Raised by F_WRITE's payload and by Verify's compare. Safe: the hardware goes on with an unspecified byte. -/
  | unwrittenBuffer (d : Dest) (i : Nat)
  /-- An access to a buffer index above 15, which does not exist (R40). Raised by F_READ's store and by the host's access.
  Safe: no rule makes such an access. -/
  | outsideBuffer (d : Dest) (i : Nat)
  deriving DecidableEq, Repr

/-- Why a step has no meaning. -/
inductive Refusal where
  /-- An instruction whose arm of exec has no meaning yet. Raised by exec alone. Safe. -/
  | notModelled (mnemonic : String)
  /-- A word given from outside decodes to no instruction. Raised by step. Safe. -/
  | illegalWord (nbits w : Nat)
  /-- START while BUSY = 1 (R160, R235, U4: refuse). Raised by START and the four host operations. Safe. -/
  | startWhileBusy
  /-- A host access to BUF, OP, ADDR or LEN while BUSY = 1 (R41, R52, U5: refuse). Raised by the host's accesses. Safe. -/
  | hostAccessWhileBusy
  /-- The host reconfigures the tick source while BUSY = 1 (R239, U7: refuse). Raised by the host's configuration. Safe. -/
  | tickSourceWhileBusy
  /-- The host configures a bit period outside 10 µs to 100 µs (R5, R232, U7: refuse). Raised by the host's configuration.
  Safe. -/
  | bitPeriodOutOfRange (tBit : Nat)
  /-- A sample while the block drives the line (R94, U11: refuse). Raised by SAMPLE and by SLOT with the action `S`. Safe. -/
  | sampleWhileDriving
  deriving DecidableEq, Repr

/-- What an operation answers. -/
abbrev Result := Host.Outcome State Fault Refusal

/-- The state after a hardware reset (R32, R230). The elements R32 leaves unspecified hold the values log 5 names. -/
def State.reset : State where
  txb := 0#8
  rxb := 0#8
  makf := false
  lerr := false
  cerr := false
  bitres := .invalid
  pres := false
  result := false
  op := 0#2
  addr := 0#16
  len := 0#8
  n := 0
  buf := []
  vbuf := []
  busy := false
  lock := false
  dir := .input
  lvl := true
  s1 := false
  s2 := false
  seq := Seq.idle
  plan := []
  params := Config.defaultParams
  tickPending := false
  tickOn := true
  bitPeriod := Config.T_BIT_MIN
  samples := []
  schedule := []
  sampleOut := false
  callOk := false
  hostData := 0#8
  wire := []
  free := 0

end Sys2Proof.Machine
end

