-- ==== Sys2Proof/Machine/Operands.lean ====
section
/-! DEFINITION. The operand forms: the length clamp, the address bytes, the acknowledge of a payload byte, the symbols of a
bit, and the tests of a received byte (spec/30_encoding.md R61, R65, R76 to R78, R83). -/

namespace Sys2Proof.Machine

open Sys2Proof

/-- R78, R174: `N = min(LEN, PAGE_SIZE)`. -/
def clampLen (len : Byte) : Nat := min len.toNat Config.PAGE_SIZE

/-- R76: `ADDR[15:8]`. -/
def addrHigh (a : Half) : Byte := a.extractLsb' 8 8

/-- R76: `ADDR[7:0]`. -/
def addrLow (a : Half) : Byte := a.extractLsb' 0 8

/-- R77: payload byte `i` of `n` carries MAK exactly when another follows, `i < N-1`; written without the subtraction. -/
def payloadMak (i n : Nat) : Bool := decide (i + 1 < n)

/-- R61: `first(b) = NOT b`. -/
def firstHalf (b : Bit) : Level := !b

/-- R61: `second(b) = b`. -/
def secondHalf (b : Bit) : Level := b

/-- R65: the logical bit that carries the acknowledge MAKF: MAK_BIT, or its complement for NoMAK. -/
def makBitOf (p : Config.Params) (makf : Bool) : Bit := if makf then p.makBit else !p.makBit

/-- R62: the pair that decodes to 0, the complement of RX_ONE_PAIR. -/
def zeroPair (p : Config.Params) : Level × Level := (!p.rxOnePair.1, !p.rxOnePair.2)

/-- R43, R83: `(byte AND WIP_MASK) = 0`. -/
def wipClear (p : Config.Params) (b : Byte) : Bool := (b &&& p.wipMask) == 0#8

/-- R110: bit 7 of a byte, the next to be sent. -/
def topBit (v : Byte) : Bit := v.msb

/-- R83: `(TXB << 1)[7:0]`. -/
def shiftOut (v : Byte) : Byte := v <<< 1

/-- R83: `(RXB << 1)[7:0] OR bit`. -/
def shiftIn (v : Byte) (d : Bit) : Byte := (v <<< 1) ||| (if d then 1#8 else 0#8)

/-- R61: the slot action that drives a level. -/
def driveAct (l : Level) : SlotAct := if l then .high else .low

/-- R18: the operation code of an operation (R79). -/
def opPresence : BitVec 2 := 0#2
/-- R79. -/
def opRead : BitVec 2 := 1#2
/-- R79. -/
def opWrite : BitVec 2 := 2#2
/-- R79. -/
def opStandby : BitVec 2 := 3#2

end Sys2Proof.Machine
end

