-- ==== Sys2Proof/Machine/Flags.lean ====
section
/-! DEFINITION. The flag computations: the judgement of a sample pair, the slave acknowledge and the escalation
(spec/30_encoding.md R62, R66; spec/41_byte_framer.md R113, R114). -/

namespace Sys2Proof.Machine

open Sys2Proof

/-- R62, R97: the outcome of a sample pair against RX_ONE_PAIR and its complement. -/
def judgePair (p : Config.Params) (s1 s2 : Level) : BitRes :=
  if (s1, s2) = p.rxOnePair then .one
  else if (s1, s2) = zeroPair p then .zero
  else .invalid

/-- R16: ONE gives data bit 1; ZERO and INVALID give data bit 0. -/
def bitData : BitRes → Bit
  | .one => true
  | .zero => false
  | .invalid => false

/-- R66: the slave acknowledge is asserted when and only when BITRES = ONE. -/
def acknowledged (r : BitRes) : Bool := r == .one

/-- R14, R97: LERR after a judged pair; sticky. -/
def lerrAfter (lerr : Bool) (r : BitRes) : Bool := lerr || r == .invalid

/-- R114: CERR after the check of a slave cell; sticky. -/
def cerrAfterSlave (cerr : Bool) (r : BitRes) : Bool := cerr || !acknowledged r

/-- R113: CERR after the escalation of LERR; sticky. -/
def cerrAfterEscalation (cerr lerr : Bool) : Bool := cerr || lerr

end Sys2Proof.Machine
end

