-- ==== Sys2Proof/Machine/Ops.lean ====
section
/-! DEFINITION. The named operations over the state: the buffers, the line, the tick flag, the plan, the raising of an error and
the recovery from it, the completion of an operation, and reset. -/

namespace Sys2Proof.Machine

open Sys2Proof

/-! ### The buffers (spec/20_memory.md R40) -/

/-- Reading index `i`: the byte something wrote there, or no value. -/
def Memory.read : Memory → Nat → Option Byte
  | [], _ => none
  | (a, v) :: m, i => if a = i then some v else Memory.read m i

/-- Writing index `i`, keeping the indices rising. -/
def Memory.write : Memory → Nat → Byte → Memory
  | [], i, v => [(i, v)]
  | (a, w) :: m, i, v =>
    if i < a then (i, v) :: (a, w) :: m
    else if i = a then (i, v) :: m
    else (a, w) :: Memory.write m i v

/-- The indices rise strictly, each at least `lo`, and all exist (0..15). -/
def Memory.rising : Nat → Memory → Bool
  | _, [] => true
  | lo, (a, _) :: m => decide (lo ≤ a) && decide (a < Config.PAGE_SIZE) && Memory.rising (a + 1) m

/-- The canonical form of a buffer: strictly rising indices, none above 15. -/
def Memory.wf (m : Memory) : Bool := Memory.rising 0 m

/-- R166: `for i = 0 .. n-1: m[i] <- 0x00`. -/
def Memory.zeroFill (m : Memory) : Nat → Memory
  | 0 => m
  | n + 1 => Memory.write (Memory.zeroFill m n) n 0#8

/-- R167: `for all i in 0 .. n-1: VBUF[i] = BUF[i]`, or the first index, from the top, that nothing has written. -/
def Memory.sameBytes (v b : Memory) : Nat → Except (Dest × Nat) Bool
  | 0 => .ok true
  | n + 1 =>
    match Memory.read v n, Memory.read b n with
    | none, _ => .error (.vbuf, n)
    | some _, none => .error (.buf, n)
    | some x, some y =>
      match Memory.sameBytes v b n with
      | .error e => .error e
      | .ok r => .ok (x == y && r)

/-- The buffer a destination names (R136). -/
def State.buffer (s : State) : Dest → Memory
  | .buf => s.buf
  | .vbuf => s.vbuf

/-- The state with that buffer replaced. -/
def State.setBuffer (s : State) (d : Dest) (m : Memory) : State :=
  match d with
  | .buf => { s with buf := m }
  | .vbuf => { s with vbuf := m }

/-- A store to a buffer; an index above 15 does not exist (R40). -/
def State.store (s : State) (d : Dest) (i : Nat) (v : Byte) : Result :=
  if i < Config.PAGE_SIZE then .next (s.setBuffer d ((s.buffer d).write i v)) else .fault (.outsideBuffer d i)

/-! ### The plan (R26) -/

/-- What is to be run before the rest of the plan. -/
def State.push (s : State) (ms : List Micro) : State := { s with plan := ms ++ s.plan }

/-! ### The line (spec/40_bit_codec.md R92 to R94, spec/60_exceptions.md R215) -/

/-- R92: `LVL <- l; DIR <- OUT`, as one action. -/
def State.driveTo (s : State) (l : Level) : State := { s with lvl := l, dir := .output }

/-- R93: `DIR <- IN`; LVL keeps its value. -/
def State.releaseLine (s : State) : State := { s with dir := .input }

/-- R94: what `read-level()` answers: the environment's next answer, or a free value where State gives none (log 7). -/
def State.lineLevel (s : State) : Level :=
  match s.samples with
  | l :: _ => l
  | [] => Config.freeLevel s.free

/-- The environment after it has answered one sample. -/
def State.answered (s : State) : State :=
  match s.samples with
  | _ :: rest => { s with samples := rest }
  | [] => { s with free := s.free + 1 }

/-- R94: `Sample()`, only with DIR = IN (U11: refuse otherwise, log 10); the level is left to the caller. -/
def State.takeSample (s : State) : Result :=
  match s.dir with
  | .output => .refused .sampleWhileDriving
  | .input => .next { s.answered with sampleOut := s.lineLevel }

/-- R50: the slot trace grows by one slot. -/
def State.record (s : State) (r : SlotRec) : State := { s with wire := r :: s.wire }

/-! ### The tick flag (R90, R95, R214) -/

/-- R214: `clear-pending-tick()`. -/
def State.clearTick (s : State) : State := { s with tickPending := false }

/-- R214: a delivery sets the flag; a tick delivered while the flag is set is lost (R90 c); a source that has stopped
delivers none (R241). -/
def State.deliverTick (s : State) : State := { s with tickPending := s.tickPending || s.tickOn }

/-! ### Errors (spec/60_exceptions.md R200 to R206): this hardware's exceptions -/

/-- R201: `raise CommsError(cause)` is `CERR <- 1` and nothing else. -/
def State.raiseComms (s : State) : State := { s with cerr := true }

/-- R8, R97: `raise DecodeError` is `BITRES <- INVALID; LERR <- 1`. -/
def State.raiseDecode (s : State) : State := { s with bitres := .invalid, lerr := true }

/-- R33: LinkReset, which opens every attempt. -/
def State.linkReset (s : State) : State :=
  { s with txb := 0#8, rxb := 0#8, makf := false, lerr := false, cerr := false, bitres := .invalid }

/-- R168, R210: recovery from a failed attempt: one re-synchronization pulse, then the loop that counts the attempts. -/
def State.recover (s : State) (loop : ZeroStep) : State := s.push [.op .spulse, .act loop]

/-- R161: completion, in its order: RESULT where the operation has one, LOCK = 0, SEQ idle, BUSY = 0. -/
def State.complete (s : State) (result : Option Bool) : State :=
  { s with result := result.getD s.result, lock := false, seq := Seq.idle, busy := false }

/-! ### Reset (R32, R230) -/

/-- RESET while the machine runs (R230): the block takes R32's values, what R32 leaves unspecified takes free values (log 12),
the tick flag and the environment are untouched and nothing is driven. -/
def State.hardReset (s : State) : State :=
  { s with
    txb := Config.freeByte s.free
    rxb := Config.freeByte (s.free + 1)
    makf := Config.freeBit s.free
    lerr := Config.freeBit (s.free + 1)
    cerr := Config.freeBit (s.free + 2)
    bitres := Config.freeBitRes s.free
    pres := Config.freeBit (s.free + 3)
    result := Config.freeBit (s.free + 4)
    op := Config.freeOp s.free
    addr := Config.freeHalf s.free
    len := Config.freeByte (s.free + 2)
    n := (Config.freeLength s.free).val
    buf := []
    vbuf := []
    busy := false
    lock := false
    dir := .input
    lvl := true
    s1 := Config.freeBit (s.free + 5)
    s2 := Config.freeBit (s.free + 6)
    seq := Seq.idle
    plan := []
    free := s.free + 7 }

end Sys2Proof.Machine
end

