-- ==== Sys2Proof/Machine/Slot.lean ====
section
/-! DEFINITION. The slot primitives (spec/40_bit_codec.md R90 to R95): table rows WAITTICK to CLEARTICK, and the intervals that
count slots. -/

namespace Sys2Proof.Machine

open Sys2Proof

/-- R91: the action of a slot, right after its tick is consumed, and its mark in the slot trace. -/
def slotAction (a : SlotAct) (s : State) : Result :=
  match a with
  | .high => .next ((s.driveTo true).record .high)
  | .low => .next ((s.driveTo false).record .low)
  | .release => .next (s.releaseLine.record .release)
  | .sample =>
    match s.takeSample with
    | .next t => .next (t.record (.sample t.sampleOut))
    | .fault r => .fault r
    | .refused r => .refused r
  | .idle => .next (s.record .idle)

/-- R90: consume a pending tick; with none pending go on waiting, the position unchanged. -/
def execWaittick (s : State) : Result :=
  if s.tickPending then .next s.clearTick else .next (s.push [.op .waittick])

/-- R91: `WaitTick()` and one action, as one step. -/
def execSlot (a : SlotAct) (s : State) : Result :=
  if s.tickPending then slotAction a s.clearTick else .next (s.push [.op (.slot a)])

/-- R92: `Drive(1)`. -/
def execDriveHigh (s : State) : Result := .next (s.driveTo true)

/-- R92: `Drive(0)`. -/
def execDriveLow (s : State) : Result := .next (s.driveTo false)

/-- R93. -/
def execRelease (s : State) : Result := .next s.releaseLine

/-- R94. -/
def execSample (s : State) : Result := s.takeSample

/-- R91: the action `-` does nothing. -/
def execNoaction (s : State) : Result := .next s

/-- R95. -/
def execCleartick (s : State) : Result := .next s.clearTick

/-- R83: `WAIT <- WAIT - 1`, never below 0. -/
def zeroWaitDown (s : State) : State := { s with seq.wait := s.seq.wait - 1 }

/-- R130, R132: `repeat ... times: Slot(-)`: another slot while WAIT is not 0. -/
def zeroHold (s : State) : State :=
  if s.seq.wait = 0 then s else s.push [.op (.slot .idle), .act .waitDown, .act .hold]

end Sys2Proof.Machine
end

