-- ==== Sys2Proof/Machine/BitCodec.lean ====
section
/-! DEFINITION. The Bit Codec (spec/40_bit_codec.md R96, R97; spec/30_encoding.md R61 to R66): table rows TXBIT to SAK. -/

namespace Sys2Proof.Machine

open Sys2Proof

/-- R96: the four slots of a transmitted cell. -/
def txCell (b : Bit) : List Micro :=
  [.op (.slot (driveAct (firstHalf b))), .act (.phase 1), .op (.slot .idle), .act (.phase 2),
   .op (.slot (driveAct (secondHalf b))), .act (.phase 3), .op (.slot .idle), .act (.phase 0)]

/-- R97: the four slots of a received cell and the judgement of its pair. -/
def rxCell : List Micro :=
  [.op (.slot .release), .act (.phase 1), .op (.slot .sample), .act .latchS1, .act (.phase 2),
   .op (.slot .idle), .act (.phase 3), .op (.slot .sample), .act .latchS2, .act .judge, .act (.phase 0)]

/-- R117: the released, unsampled cell `Z---`. -/
def unsampledCell : List Micro :=
  [.op (.slot .release), .act (.phase 1), .op (.slot .idle), .act (.phase 2),
   .op (.slot .idle), .act (.phase 3), .op (.slot .idle), .act (.phase 0)]

/-- A cell begins at phase 0 (R63). -/
def State.beginCell (s : State) (cell : List Micro) : State :=
  { s with seq.ph := 0, plan := cell ++ s.plan }

/-- The environment answers the next two samples with this pair (log 15). -/
def State.presents (s : State) (p : Level × Level) : State := { s with samples := p.1 :: p.2 :: s.samples }

/-- R97: `S1 <- Slot(S)`. -/
def zeroLatchS1 (s : State) : State := { s with s1 := s.sampleOut }

/-- R97: `S2 <- Slot(S)`. -/
def zeroLatchS2 (s : State) : State := { s with s2 := s.sampleOut }

/-- R97: the pair is judged once, after the phase-3 sample (R209 a). -/
def zeroJudge (s : State) : State :=
  let r := judgePair s.params s.s1 s.s2
  { s with bitres := r, lerr := lerrAfter s.lerr r }

/-- R96. -/
def execTxbit (b : Bit) (s : State) : Result := .next (s.beginCell (txCell b))

/-- R96: `TxBit(1)`, `L-H-`. -/
def execTxbitOne (s : State) : Result := .next (s.beginCell (txCell true))

/-- R96: `TxBit(0)`, `H-L-`. -/
def execTxbitZero (s : State) : Result := .next (s.beginCell (txCell false))

/-- R97. -/
def execRxbit (s : State) : Result := .next (s.beginCell rxCell)

/-- R97, row RXBIT_ONE: the received cell whose pair is RX_ONE_PAIR. -/
def execRxbitOne (s : State) : Result := .next ((s.presents s.params.rxOnePair).beginCell rxCell)

/-- R97, row RXBIT_ZERO: the received cell whose pair is its complement. -/
def execRxbitZero (s : State) : Result := .next ((s.presents (zeroPair s.params)).beginCell rxCell)

/-- R97, row RXBIT_INVALID_LL. -/
def execRxbitInvalidLL (s : State) : Result := .next ((s.presents (false, false)).beginCell rxCell)

/-- R97, row RXBIT_INVALID_HH. -/
def execRxbitInvalidHH (s : State) : Result := .next ((s.presents (true, true)).beginCell rxCell)

/-- R65: MAK, cell 8 of a byte frame, sent as `TxBit(MAK_BIT)`. -/
def execMak (s : State) : Result :=
  .next ({ s with seq.cell := 8 }.beginCell (txCell (makBitOf s.params true)))

/-- R65: NoMAK, cell 8 of a byte frame, sent as `TxBit(1 - MAK_BIT)`. -/
def execNomak (s : State) : Result :=
  .next ({ s with seq.cell := 8 }.beginCell (txCell (makBitOf s.params false)))

/-- R66: SAK, a slave cell (cell 9) whose pair is RX_ONE_PAIR, checked as R114 says. -/
def execSak (s : State) : Result :=
  .next (({ s with seq.cell := 9 }.presents s.params.rxOnePair).beginCell (rxCell ++ [Micro.act .slaveCheck]))

end Sys2Proof.Machine
end

