-- ==== Sys2Proof/Machine/ByteFramer.lean ====
section
/-! DEFINITION. The Byte Framer (spec/41_byte_framer.md R110 to R117): table rows TXBYTE to ACKX, and the byte values with a
fixed position in a frame (spec/30_encoding.md R74, R77): rows SYNC_BYTE to CMD_WRITE. -/

namespace Sys2Proof.Machine

open Sys2Proof

/-- R110: one data cell of a transmitted byte. -/
def txDataCell (c : Fin 10) : List Micro := [.act (.cell c), .act .txData, .act .txShift]

/-- R111: one data cell of a received byte. -/
def rxDataCell (c : Fin 10) : List Micro := [.act (.cell c), .op .rxbit, .act .rxShift]

/-- R110: the eight data cells, most significant bit first. -/
def txDataCells : List Micro :=
  txDataCell 0 ++ txDataCell 1 ++ txDataCell 2 ++ txDataCell 3 ++
    txDataCell 4 ++ txDataCell 5 ++ txDataCell 6 ++ txDataCell 7

/-- R111: the eight data cells. -/
def rxDataCells : List Micro :=
  rxDataCell 0 ++ rxDataCell 1 ++ rxDataCell 2 ++ rxDataCell 3 ++
    rxDataCell 4 ++ rxDataCell 5 ++ rxDataCell 6 ++ rxDataCell 7

/-- R112: cell 9 of the acknowledge exchange. -/
def slaveCell (check : Bool) : List Micro :=
  if check then [.op .rxbit, .act .slaveCheck] else unsampledCell

/-- R112: the acknowledge exchange, its master acknowledge as MAKF has it. -/
def ackPlan (makf check : Bool) : List Micro :=
  [.op (if makf then .mak else .nomak), .act (.cell 9)] ++ slaveCell check ++ [.act .escalate, .act (.cell 0)]

/-- R110: `TxBit(TXB[7])`. -/
def zeroTxData (s : State) : State := s.push [.op (.txbit (topBit s.txb))]

/-- R110: `TXB <- (TXB << 1)[7:0]`. -/
def zeroTxShift (s : State) : State := { s with txb := shiftOut s.txb }

/-- R111: `RXB <- (RXB << 1)[7:0] OR d`, the bit as R16 reads it from BITRES. -/
def zeroRxShift (s : State) : State := { s with rxb := shiftIn s.rxb (bitData s.bitres) }

/-- R112, R114. -/
def zeroSlaveCheck (s : State) : State := { s with cerr := cerrAfterSlave s.cerr s.bitres }

/-- R112, R113. -/
def zeroEscalate (s : State) : State := { s with cerr := cerrAfterEscalation s.cerr s.lerr }

/-- R110: a byte frame that sends `v`. -/
def State.sendByte (s : State) (v : Byte) (check : Bool) : State :=
  { s with txb := v, plan := txDataCells ++ [.op (.ackx check)] ++ s.plan }

/-- R77, R116: a byte value in its fixed position: the frame step, MAKF, then the byte frame. -/
def State.sendFixed (s : State) (f : FrameStep) (makf : Bool) (v : Byte) (check : Bool) : State :=
  { s with makf := makf, seq.fst := f }.sendByte v check

/-- R110. -/
def execTxbyte (v : Byte) (s : State) : Result := .next (s.sendByte v true)

/-- R117: `MAKF <- 1; TxByte(0x55, false)`. -/
def execTxbyteSync (s : State) : Result := .next ({ s with makf := true }.sendByte Config.SYNC_BYTE false)

/-- R111. -/
def execRxbyte (s : State) : Result := .next (s.push (rxDataCells ++ [.op (.ackx true)]))

/-- R112. -/
def execAckx (check : Bool) (s : State) : Result := .next (s.push (ackPlan s.makf check))

/-- R74, R117: byte 0 of every frame. -/
def execSyncByte (s : State) : Result := .next (s.sendFixed .sync true Config.SYNC_BYTE false)

/-- R74, R75, R77: byte 1 of every frame, with MAK. -/
def execDeviceAddress (s : State) : Result := .next (s.sendFixed .devaddr true Config.DEVICE_ADDRESS true)

/-- R74, R77: status-read, with MAK. -/
def execCmdRdsr (s : State) : Result := .next (s.sendFixed .command true Config.CMD_RDSR true)

/-- R74, R77: write-enable, with NoMAK. -/
def execCmdWren (s : State) : Result := .next (s.sendFixed .command false Config.CMD_WREN true)

/-- R74, R77: read, with MAK. -/
def execCmdRead (s : State) : Result := .next (s.sendFixed .command true Config.CMD_READ true)

/-- R74, R77: write, with MAK. -/
def execCmdWrite (s : State) : Result := .next (s.sendFixed .command true Config.CMD_WRITE true)

end Sys2Proof.Machine
end

