-- ==== Sys2Proof/Machine/FrameBuilder.lean ====
section
/-! DEFINITION. The Frame Builder (spec/42_frame_builder.md R130 to R139): table rows FSTART to F_POLL. -/

namespace Sys2Proof.Machine

open Sys2Proof

/-- R130: the preamble: the quiet interval, the low hold, the synchronization byte. -/
def startPlan (p : Config.Params) : List Micro :=
  [.act (.frameStep .quiet), .act (.setWait p.quietTicks), .op (.slot .high), .act .waitDown, .act .hold,
   .act (.frameStep .lowhold), .act (.setWait p.hdrLowTicks), .op (.slot .low), .act .waitDown, .act .hold,
   .op .syncByte]

/-- R131: the idle drive, then the frame is over (R139). -/
def endPlan : List Micro := [.op (.slot .high), .act .frameDone]

/-- R132: `Slot(H)`, then STANDBY_TICKS slots with no action. -/
def pulsePlan (p : Config.Params) : List Micro :=
  [.op (.slot .high), .act (.setWait p.standbyTicks), .act .hold, .act .frameDone]

/-- R135: the two address bytes, high byte first, each with MAK. -/
def addressPlan (a : Half) : List Micro :=
  [.act (.frameStep .addrh), .act (.makf true), .op (.txbyte (addrHigh a)),
   .act (.frameStep .addrl), .act (.makf true), .op (.txbyte (addrLow a))]

/-- R135: the device address byte, the command byte and, where asked, the address. -/
def addressedPlan (a : Half) (c : Byte) (mc withAddr : Bool) : List Micro :=
  [.op .deviceAddress, .act (.frameStep .command), .act (.makf mc), .op (.txbyte c)] ++
    (if withAddr then addressPlan a else [])

/-- A frame or pulse starts (R139). -/
def State.beginFrame (s : State) (f : FrameKind) (ms : List Micro) : State :=
  { s with seq.frame := f, plan := ms ++ s.plan }

/-- R139: the payload begins at IDX = 0. -/
def zeroPayload (s : State) : State := { s with seq.fst := .payload, seq.idx := 0 }

/-- R133: `PRES <- NOT CERR`. -/
def zeroLatchPres (s : State) : State := { s with pres := !s.cerr }

/-- R136: `MAKF <- (IDX < N-1); RxByte()`; with N = 0 there is no payload (log 29). -/
def zeroReadByte (d : Dest) (s : State) : State :=
  if s.seq.idx < s.n then
    { s with makf := payloadMak s.seq.idx s.n }.push [.op .rxbyte, .act (.readNext d)]
  else s

/-- R136, R139: `dest[IDX] <- RXB`; then the next payload byte if `IDX < N-1`. -/
def zeroReadNext (d : Dest) (s : State) : Result :=
  match s.store d s.seq.idx s.rxb with
  | .next t =>
    if payloadMak t.seq.idx t.n then .next ({ t with seq.idx := t.seq.idx + 1 }.push [.act (.readByte d)])
    else .next t
  | .fault r => .fault r
  | .refused r => .refused r

/-- R137: `MAKF <- (IDX < N-1); TxByte(BUF[IDX], true)`, BUF[IDX] read when its byte frame begins; a byte nothing has written
is a fault (R32, U15). -/
def zeroWriteByte (s : State) : Result :=
  if s.seq.idx < s.n then
    match s.buf.read s.seq.idx with
    | some v => .next ({ s with makf := payloadMak s.seq.idx s.n }.push [.op (.txbyte v), .act .writeNext])
    | none => .fault (.unwrittenBuffer .buf s.seq.idx)
  else .next s

/-- R137, R139: the next payload byte if `IDX < N-1`. -/
def zeroWriteNext (s : State) : State :=
  if payloadMak s.seq.idx s.n then { s with seq.idx := s.seq.idx + 1 }.push [.act .writeByte] else s

/-- R138: `MAKF <- 1; s <- RxByte()`. -/
def zeroPollByte (s : State) : State := { s with makf := true }.push [.op .rxbyte, .act .pollTest]

/-- R138: `PCNT <- PCNT + 1`, the WIP test, then the ceiling test. PCNT ends at the ceiling and never passes it (R83). -/
def zeroPollTest (s : State) : State :=
  let t : State := { s with seq.pcnt := min (s.seq.pcnt + 1) Config.POLL_CEILING }
  if wipClear t.params t.rxb then t
  else if t.seq.pcnt = Config.POLL_CEILING then t.raiseComms
  else t.push [.act .pollByte]

/-- R130. -/
def execFstart (s : State) : Result := .next (s.push (startPlan s.params))

/-- R131. -/
def execFend (s : State) : Result := .next ({ s with seq.fst := .endStep }.push endPlan)

/-- R132. -/
def execSpulse (s : State) : Result :=
  .next ({ s with seq.fst := .pulse }.beginFrame .spulse (pulsePlan s.params))

/-- R135. -/
def execAddressed (c : Byte) (mc : Bool) (withAddr : Bool) (s : State) : Result :=
  .next (s.push (addressedPlan s.addr c mc withAddr))

/-- R133. -/
def execFPresence (s : State) : Result :=
  .next (s.beginFrame .presence
    [.op .fstart, .op .deviceAddress, .act .latchPres, .op .cmdRdsr,
     .act .payload, .act (.makf false), .op .rxbyte, .op .fend])

/-- R134. -/
def execFWren (s : State) : Result :=
  .next (s.beginFrame .wren [.op .fstart, .op (.addressed Config.CMD_WREN false false), .op .fend])

/-- R136. -/
def execFRead (d : Dest) (s : State) : Result :=
  .next (s.beginFrame .read
    [.op .fstart, .op (.addressed Config.CMD_READ true true), .act .payload, .act (.readByte d), .op .fend])

/-- R137. -/
def execFWrite (s : State) : Result :=
  .next (s.beginFrame .write
    [.op .fstart, .op (.addressed Config.CMD_WRITE true true), .act .payload, .act .writeByte, .op .fend])

/-- R138: `PCNT <- 0` before the first status read. -/
def execFPoll (s : State) : Result :=
  .next (s.beginFrame .poll
    [.op .fstart, .op (.addressed Config.CMD_RDSR true false), .act .payload, .act .pollStart, .act .pollByte, .op .fend])

end Sys2Proof.Machine
end

