-- ==== Sys2Proof/Machine/Engine.lean ====
section
/-! DEFINITION. The Transaction Engine (spec/43_transaction_engine.md R160 to R174; spec/10_state.md R33): table rows PRESENCE to
LINKRESET. -/

namespace Sys2Proof.Machine

open Sys2Proof

/-- R166: the attempt counter of ReadCore: ATT for READ, VATT for the verify read. -/
def State.readCount (s : State) : Dest → Nat
  | .buf => s.seq.att
  | .vbuf => s.seq.vatt

/-- The state with that counter replaced. -/
def State.setReadCount (s : State) (d : Dest) (k : Nat) : State :=
  match d with
  | .buf => { s with seq.att := k }
  | .vbuf => { s with seq.vatt := k }

/-- R166, R168, R169: the frames of one attempt, between LinkReset with LOCK <- 1 and LOCK <- 0 with the decision. -/
def attemptPlan (frames : List Micro) (decision : ZeroStep) : List Micro :=
  [.op .linkreset, .act (.lock true)] ++ frames ++ [.act (.lock false), .act decision]

/-- R166: `while cnt < 3`: another attempt; after the third the zero fill of indices 0 to N-1, and false. -/
def zeroReadAttempt (d : Dest) (s : State) : State :=
  if s.readCount d < Config.MAX_ATTEMPTS then
    (s.setReadCount d (s.readCount d + 1)).push (attemptPlan [.op (.fRead d)] (.readDecide d))
  else { s.setBuffer d ((s.buffer d).zeroFill s.n) with callOk := false }

/-- R166: `if CERR = 0: return true`, else the pulse and the loop. -/
def zeroReadDecide (d : Dest) (s : State) : State :=
  if s.cerr then s.recover (.readAttempt d) else { s with callOk := true }

/-- R167: the comparison of the read-back with BUF, and what Verify returns; TOP goes back to WRITE (R170). -/
def zeroCompare (s : State) : Result :=
  match Memory.sameBytes s.vbuf s.buf s.n with
  | .error (d, i) => .fault (.unwrittenBuffer d i)
  | .ok eq =>
    .next { s with callOk := (if s.params.verifyUsesReadStatus then s.callOk && eq else eq), seq.top := .write }

/-- R164: `while ATT < 3`: F_WREN, F_WRITE and F_POLL; after the third attempt `RESULT <- 0; complete`. -/
def zeroWriteAttempt (s : State) : State :=
  if s.seq.att < Config.MAX_ATTEMPTS then
    { s with seq.att := s.seq.att + 1 }.push (attemptPlan [.op .fWren, .op .fWrite, .op .fPoll] .writeDecide)
  else s.complete (some false)

/-- R164: a comms error is recovered from; without one the write is verified. -/
def zeroWriteDecide (s : State) : State :=
  if s.cerr then s.recover .writeAttempt else s.push [.op .verify, .act .verifyDecide]

/-- R164: a verify that passes completes the WRITE; one that fails is recovered from (E_VERIFY, R204). -/
def zeroVerifyDecide (s : State) : State :=
  if s.callOk then s.complete (some true) else s.recover .writeAttempt

/-- R162. -/
def beginPresence (s : State) : State :=
  s.clearTick.push (attemptPlan [.op .fPresence] .finishPresence)

/-- R163, R173, R174. -/
def beginRead (s : State) : State :=
  let t : State := { s with n := clampLen s.len }
  if t.n = 0 then t.complete (some false) else t.clearTick.push [.op (.readcore .buf), .act .finishRead]

/-- R164, R173, R174. -/
def beginWrite (s : State) : State :=
  let t : State := { s with n := clampLen s.len }
  if t.n = 0 then t.complete (some false)
  else { t.clearTick with seq.att := 0 }.push [.act .writeAttempt]

/-- R165. -/
def beginStandby (s : State) : State := s.clearTick.push [.op .spulse, .act .finishStandby]

/-- R160: BUSY <- 1 and SEQ.TOP <- the operation OP selects (R79), whose pseudocode then runs up to its first slot. -/
def State.hostStart (s : State) : State :=
  let t : State := { s with busy := true }
  if s.op = opPresence then beginPresence { t with seq.top := .presence }
  else if s.op = opRead then beginRead { t with seq.top := .read }
  else if s.op = opWrite then beginWrite { t with seq.top := .write }
  else beginStandby { t with seq.top := .standby }

/-- R160, R235: START has no meaning while BUSY = 1. -/
def State.tryStart (s : State) : Result :=
  if s.busy then .refused .startWhileBusy else .next s.hostStart

/-- R79: the host's command word: OP, LEN and ADDR, then START (log 18). -/
def State.command (s : State) (op : BitVec 2) (len : Byte) (addr : Half) : Result :=
  if s.busy then .refused .startWhileBusy else .next { s with op := op, len := len, addr := addr }.hostStart

/-- R162: OP = 0b00; LEN and ADDR are ignored by the operation. -/
def execPresence (len : Byte) (addr : Half) (s : State) : Result := s.command opPresence len addr

/-- R163: OP = 0b01. -/
def execRead (len : Byte) (addr : Half) (s : State) : Result := s.command opRead len addr

/-- R164: OP = 0b10. -/
def execWrite (len : Byte) (addr : Half) (s : State) : Result := s.command opWrite len addr

/-- R165: OP = 0b11; LEN and ADDR are ignored by the operation. -/
def execStandby (len : Byte) (addr : Half) (s : State) : Result := s.command opStandby len addr

/-- R160. -/
def execStart (s : State) : Result := s.tryStart

/-- R166: `cnt <- 0`, then the loop. -/
def execReadcore (d : Dest) (s : State) : Result := .next ((s.setReadCount d 0).push [.act (.readAttempt d)])

/-- R167: the read-back into VBUF, then the comparison; TOP is VERIFY meanwhile (R170). -/
def execVerify (s : State) : Result :=
  .next ({ s with seq.top := .verify }.push [.op (.readcore .vbuf), .act .compare])

/-- R33. -/
def execLinkreset (s : State) : Result := .next s.linkReset

end Sys2Proof.Machine
end

