-- ==== Sys2Proof/Machine/Dispatch.lean ====
section
/-! DEFINITION. exec: one arm per instruction, each one call of its meaning. -/

namespace Sys2Proof.Machine

open Sys2Proof

def exec (i : Instr) (s : State) : Host.Outcome State Fault Refusal :=
  match i with
  | .waittick => Sys2Proof.Machine.execWaittick s
  | .slot a => Sys2Proof.Machine.execSlot a s
  | .driveHigh => Sys2Proof.Machine.execDriveHigh s
  | .driveLow => Sys2Proof.Machine.execDriveLow s
  | .release => Sys2Proof.Machine.execRelease s
  | .sample => Sys2Proof.Machine.execSample s
  | .noaction => Sys2Proof.Machine.execNoaction s
  | .cleartick => Sys2Proof.Machine.execCleartick s
  | .txbit b => Sys2Proof.Machine.execTxbit b s
  | .txbitOne => Sys2Proof.Machine.execTxbitOne s
  | .txbitZero => Sys2Proof.Machine.execTxbitZero s
  | .rxbit => Sys2Proof.Machine.execRxbit s
  | .rxbitOne => Sys2Proof.Machine.execRxbitOne s
  | .rxbitZero => Sys2Proof.Machine.execRxbitZero s
  | .rxbitInvalidLL => Sys2Proof.Machine.execRxbitInvalidLL s
  | .rxbitInvalidHH => Sys2Proof.Machine.execRxbitInvalidHH s
  | .mak => Sys2Proof.Machine.execMak s
  | .nomak => Sys2Proof.Machine.execNomak s
  | .sak => Sys2Proof.Machine.execSak s
  | .txbyte v => Sys2Proof.Machine.execTxbyte v s
  | .txbyteSync => Sys2Proof.Machine.execTxbyteSync s
  | .rxbyte => Sys2Proof.Machine.execRxbyte s
  | .ackx check => Sys2Proof.Machine.execAckx check s
  | .syncByte => Sys2Proof.Machine.execSyncByte s
  | .deviceAddress => Sys2Proof.Machine.execDeviceAddress s
  | .cmdRdsr => Sys2Proof.Machine.execCmdRdsr s
  | .cmdWren => Sys2Proof.Machine.execCmdWren s
  | .cmdRead => Sys2Proof.Machine.execCmdRead s
  | .cmdWrite => Sys2Proof.Machine.execCmdWrite s
  | .fstart => Sys2Proof.Machine.execFstart s
  | .fend => Sys2Proof.Machine.execFend s
  | .spulse => Sys2Proof.Machine.execSpulse s
  | .addressed c mc withAddr => Sys2Proof.Machine.execAddressed c mc withAddr s
  | .fPresence => Sys2Proof.Machine.execFPresence s
  | .fWren => Sys2Proof.Machine.execFWren s
  | .fRead d => Sys2Proof.Machine.execFRead d s
  | .fWrite => Sys2Proof.Machine.execFWrite s
  | .fPoll => Sys2Proof.Machine.execFPoll s
  | .presence len addr => Sys2Proof.Machine.execPresence len addr s
  | .read len addr => Sys2Proof.Machine.execRead len addr s
  | .write len addr => Sys2Proof.Machine.execWrite len addr s
  | .standby len addr => Sys2Proof.Machine.execStandby len addr s
  | .start => Sys2Proof.Machine.execStart s
  | .readcore d => Sys2Proof.Machine.execReadcore d s
  | .verify => Sys2Proof.Machine.execVerify s
  | .linkreset => Sys2Proof.Machine.execLinkreset s

end Sys2Proof.Machine
end

