-- ==== Sys2Proof/Machine/HostPort.lean ====
section
/-! DEFINITION. What the host may do (spec/60_exceptions.md R219, spec/20_memory.md R41, R52, spec/70 R230, R232, R239). -/

namespace Sys2Proof.Machine

open Sys2Proof

/-- R41, R52: an access to BUF, OP, ADDR or LEN, refused while BUSY = 1. -/
def State.whenIdle (s : State) (r : Result) : Result := if s.busy then .refused .hostAccessWhileBusy else r

/-- A bit as the host reads it: bit 0 of the data it sees. -/
def bitByte (b : Bool) : Byte := if b then 1#8 else 0#8

/-- R41: the host reads BUF[i]; a byte nothing has written reads as any value (U14). -/
def State.hostReadBuf (s : State) (i : Nat) : Result :=
  if i < Config.PAGE_SIZE then
    match s.buf.read i with
    | some v => .next { s with hostData := v }
    | none => .next { s with hostData := Config.freeByte s.free, free := s.free + 1 }
  else .fault (.outsideBuffer .buf i)

/-- R24: the host reads RESULT, which is valid only when BUSY = 0; before that it reads as any value (log 25). -/
def State.hostReadResult (s : State) : State :=
  if s.busy then { s with hostData := bitByte (Config.freeBit s.free), free := s.free + 1 }
  else { s with hostData := bitByte s.result }

/-- R232, R239: the host configures the tick source to a bit period, between operations only (U7). -/
def State.configureTick (s : State) (tBit : Nat) : Result :=
  if s.busy then .refused .tickSourceWhileBusy
  else if Config.bitPeriodLegal tBit then .next { s with tickOn := true, bitPeriod := tBit }
  else .refused (.bitPeriodOutOfRange tBit)

/-- One action of the host. -/
def hostAct (a : HostAction) (s : State) : Result :=
  match a with
  | .writeOp v => s.whenIdle (.next { s with op := v })
  | .writeAddr v => s.whenIdle (.next { s with addr := v })
  | .writeLen v => s.whenIdle (.next { s with len := v })
  | .writeBuf i v => s.whenIdle (s.store .buf i v)
  | .readBuf i => s.whenIdle (s.hostReadBuf i)
  | .readResult => .next s.hostReadResult
  | .readBusy => .next { s with hostData := bitByte s.busy }
  | .readLock => .next { s with hostData := bitByte s.lock }
  | .start => s.tryStart
  | .reset => .next s.hardReset
  | .configureTick tBit => s.configureTick tBit

end Sys2Proof.Machine
end

