-- ==== Sys2Proof/Machine/ZeroTime.lean ====
section
/-! DEFINITION. The zero-time steps between two slots: one call of the definition of each, in the family it belongs to. -/

namespace Sys2Proof.Machine

open Sys2Proof

/-- R139: the frame or pulse is over. -/
def zeroFrameDone (s : State) : State := { s with seq.fst := .idle, seq.frame := .none }

/-- One zero-time step. -/
def runZero (z : ZeroStep) (s : State) : Result :=
  match z with
  | .phase p => .next { s with seq.ph := p }
  | .cell c => .next { s with seq.cell := c }
  | .frameStep f => .next { s with seq.fst := f }
  | .frameDone => .next (zeroFrameDone s)
  | .setWait n => .next { s with seq.wait := n }
  | .waitDown => .next (zeroWaitDown s)
  | .hold => .next (zeroHold s)
  | .txData => .next (zeroTxData s)
  | .txShift => .next (zeroTxShift s)
  | .rxShift => .next (zeroRxShift s)
  | .latchS1 => .next (zeroLatchS1 s)
  | .latchS2 => .next (zeroLatchS2 s)
  | .judge => .next (zeroJudge s)
  | .slaveCheck => .next (zeroSlaveCheck s)
  | .escalate => .next (zeroEscalate s)
  | .makf b => .next { s with makf := b }
  | .latchPres => .next (zeroLatchPres s)
  | .payload => .next (zeroPayload s)
  | .readByte d => .next (zeroReadByte d s)
  | .readNext d => zeroReadNext d s
  | .writeByte => zeroWriteByte s
  | .writeNext => .next (zeroWriteNext s)
  | .pollStart => .next { s with seq.pcnt := 0 }
  | .pollByte => .next (zeroPollByte s)
  | .pollTest => .next (zeroPollTest s)
  | .lock b => .next { s with lock := b }
  | .readAttempt d => .next (zeroReadAttempt d s)
  | .readDecide d => .next (zeroReadDecide d s)
  | .compare => zeroCompare s
  | .writeAttempt => .next (zeroWriteAttempt s)
  | .writeDecide => .next (zeroWriteDecide s)
  | .verifyDecide => .next (zeroVerifyDecide s)
  | .finishPresence => .next (s.complete (some s.pres))
  | .finishRead => .next (s.complete (some s.callOk))
  | .finishStandby => .next (s.complete none)

end Sys2Proof.Machine
end

