-- ==== Sys2Proof/Machine/Step.lean ====
section
/-! DEFINITION. One step of the machine: whose move it is, and what the sequencer's move is; and the state in which a given
table word is the next thing to run. -/

namespace Sys2Proof.Machine

open Sys2Proof

/-- Running a table word given from outside: the decoder reads it and exec runs it. -/
def runWord (nbits w : Nat) (s : State) : Result :=
  match decodeTableWord nbits w with
  | some i => exec i s
  | none => .refused (.illegalWord nbits w)

/-- Running one position of the plan, which `s` no longer holds. -/
def runMicro (m : Micro) (s : State) : Result :=
  match m with
  | .op i => exec i s
  | .act z => runZero z s
  | .word nbits w => runWord nbits w s

/-- The sequencer's move (R50): the next position of its plan; with nothing to run it is idle (R230). -/
def seqStep (s : State) : Result :=
  match s.plan with
  | [] => .next s
  | m :: rest => runMicro m { s with plan := rest }

/-- Whether the sequencer stands at a WaitTick with no tick pending (R90). -/
def waiting (s : State) : Bool :=
  match s.plan with
  | .op .waittick :: _ => !s.tickPending
  | .op (.slot _) :: _ => !s.tickPending
  | _ => false

/-- One move of an agent. -/
def agentMove (m : Move) (s : State) : Result :=
  match m with
  | .sequencer => seqStep s
  | .tick => .next s.deliverTick
  | .tickStop => .next { s with tickOn := false }
  | .host a => hostAct a s

/-- With no move scheduled: the tick source moves when the sequencer waits for it, and the sequencer otherwise (log 9).
A waiting sequencer whose tick source has stopped stays where it is (R241). -/
def defaultMove (s : State) : Result :=
  if waiting s then (if s.tickOn then .next s.deliverTick else .next s) else seqStep s

/-- One step: the next scheduled move, or the default one. -/
def step (s : State) : Host.Outcome State Fault Refusal :=
  match s.schedule with
  | [] => defaultMove s
  | m :: rest => agentMove m { s with schedule := rest }

/-- `s` with a table word where the sequencer takes its next position, and the next move the sequencer's (log 21). -/
def State.withFetchWord (s : State) (nbits w : Nat) : State :=
  { s with plan := .word nbits w :: s.plan, schedule := .sequencer :: s.schedule }

end Sys2Proof.Machine
end

