-- ==== Sys2Proof/Safety.lean ====
section
/-! DEFINITION. The terms the statements are written in: runs, completion, what the environment answers, the slot strings of the
spec, and what a safe state is. -/

namespace Sys2Proof.Machine

open Sys2Proof

/-! ### Runs -/

/-- `n` steps, stopping at the first fault or refusal. -/
def run : Nat → State → Result
  | 0, s => .next s
  | n + 1, s =>
    match step s with
    | .next t => run n t
    | .fault r => .fault r
    | .refused r => .refused r

/-- Some number of steps leads from `s` to `t`. -/
def Reaches (s t : State) : Prop := ∃ n, run n s = .next t

/-- No agent's move is scheduled and the tick source delivers ticks: the premise under which an operation ends (R171, R241). -/
def Ready (s : State) : Prop := s.schedule = [] ∧ s.tickOn = true

/-- `i`, run in `s`, completes: exec answers a next state, and from it the machine reaches a state in which what `i` planned
has been run, the rest of the plan is as it was, and `post` holds. -/
def Completes (i : Instr) (s : State) (post : State → Prop) : Prop :=
  ∃ t, exec i s = .next t ∧ ∃ u, Reaches t u ∧ u.plan = s.plan ∧ post u

/-! ### What the environment answers -/

/-- The next two samples. -/
def State.nextPair (s : State) : Level × Level := (s.lineLevel, s.answered.lineLevel)

/-- The environment after `k` received cells. -/
def State.afterPairs : Nat → State → State
  | 0, s => s
  | k + 1, s => State.afterPairs k s.answered.answered

/-- The sample pairs of the next `k` received cells. -/
def State.nextPairs : Nat → State → List (Level × Level)
  | 0, _ => []
  | k + 1, s => s.nextPair :: State.nextPairs k s.answered.answered

/-- The pair the environment presents in the received cell after the next `k` (counted from 0). -/
def State.pairAt (s : State) (k : Nat) : Level × Level := (s.afterPairs k).nextPair

/-! ### Judgements of received cells (spec/30_encoding.md R62, R66) -/

/-- A pair decodes to 1. -/
def readsOne (p : Config.Params) (x : Level × Level) : Bool := x == p.rxOnePair

/-- A pair decodes to neither 1 nor 0. -/
def readsInvalid (p : Config.Params) (x : Level × Level) : Bool :=
  x != p.rxOnePair && x != (!p.rxOnePair.1, !p.rxOnePair.2)

/-- What BITRES holds after a pair is judged (R97). -/
def outcomeOf (p : Config.Params) (x : Level × Level) : BitRes :=
  if readsOne p x then .one else if readsInvalid p x then .invalid else .zero

/-- The byte of eight received pairs, the first the most significant; what does not decode to 1 reads 0 (R16, R111). -/
def byteOfPairs (p : Config.Params) (xs : List (Level × Level)) : Byte :=
  BitVec.ofNat 8 (xs.foldl (fun a x => 2 * a + (readsOne p x).toNat) 0)

/-- The byte the environment presents in a received byte frame that begins after the next `k` received cells. -/
def State.byteAt (s : State) (k : Nat) : Byte := byteOfPairs s.params ((s.afterPairs k).nextPairs 8)

/-- A byte frame received after the next `k` received cells is clean: its eight data pairs are valid and its slave cell
acknowledges. -/
def State.cleanAt (s : State) (k : Nat) : Bool :=
  !((s.afterPairs k).nextPairs 8).any (readsInvalid s.params) && readsOne s.params (s.pairAt (k + 8))

/-- The next `k` received cells, all slave cells of transmitted byte frames, acknowledge. -/
def State.acksAt (s : State) (k : Nat) : Bool := (s.nextPairs k).all (readsOne s.params)

/-- The pairs with which an environment makes the block read a logical bit (R62). -/
def pairFor (p : Config.Params) (b : Bit) : List Level :=
  if b then [p.rxOnePair.1, p.rxOnePair.2] else [!p.rxOnePair.1, !p.rxOnePair.2]

/-- The bits of a byte, most significant first (R44, R64). -/
def bitsOf (v : Byte) : List Bit :=
  [v.getLsbD 7, v.getLsbD 6, v.getLsbD 5, v.getLsbD 4, v.getLsbD 3, v.getLsbD 2, v.getLsbD 1, v.getLsbD 0]

/-- The answers of an acknowledged received byte frame that carries `v`. -/
def answersByte (p : Config.Params) (v : Byte) : List Level :=
  (bitsOf v).flatMap (pairFor p) ++ pairFor p true

/-- The answers of an acknowledging device to a READ frame whose payload is `vs`: four acknowledges, then the bytes. -/
def answersRead (p : Config.Params) (vs : List Byte) : List Level :=
  pairFor p true ++ pairFor p true ++ pairFor p true ++ pairFor p true ++ vs.flatMap (answersByte p)

/-- The answers of `k` slave cells that acknowledge. -/
def answersAcks (p : Config.Params) : Nat → List Level
  | 0 => []
  | k + 1 => pairFor p true ++ answersAcks p k

/-- The answers of an acknowledging device to one WRITE attempt of the payload `vs`: the slave cells of F_WREN and F_WRITE,
the status bytes `sts` in F_POLL, and the payload read back. -/
def answersWrite (p : Config.Params) (vs sts : List Byte) : List Level :=
  answersAcks p 2 ++ answersAcks p (4 + vs.length) ++ answersAcks p 2 ++ sts.flatMap (answersByte p) ++ answersRead p vs

/-! ### Slot strings (R8, R61 to R64, R67 to R73), oldest slot first -/

/-- R63, R96: `L-H-` for 1, `H-L-` for 0. -/
def txTrace (b : Bit) : List SlotRec :=
  if b then [.low, .idle, .high, .idle] else [.high, .idle, .low, .idle]

/-- R63, R97: `Zp-q`. -/
def rxTrace (x : Level × Level) : List SlotRec := [.release, .sample x.1, .idle, .sample x.2]

/-- R117: `Z---`. -/
def offTrace : List SlotRec := [.release, .idle, .idle, .idle]

/-- R64: a transmitted byte frame: eight data cells, the master acknowledge, the slave cell. -/
def txByteTrace (v : Byte) (mak : Bit) (slave : Level × Level) : List SlotRec :=
  (bitsOf v).flatMap txTrace ++ txTrace mak ++ rxTrace slave

/-- R117, R118: the synchronization byte frame. -/
def syncTrace (mak : Bit) : List SlotRec := (bitsOf Config.SYNC_BYTE).flatMap txTrace ++ txTrace mak ++ offTrace

/-- R64: a received byte frame. -/
def rxByteTrace (xs : List (Level × Level)) (mak : Bit) (slave : Level × Level) : List SlotRec :=
  xs.flatMap rxTrace ++ txTrace mak ++ rxTrace slave

/-- R130: FSTART. -/
def startTrace (p : Config.Params) : List SlotRec :=
  .high :: List.replicate (p.quietTicks - 1) .idle ++ .low :: List.replicate (p.hdrLowTicks - 1) .idle ++
    syncTrace p.makBit

/-- R132: SPULSE. -/
def pulseTrace (p : Config.Params) : List SlotRec := .high :: List.replicate p.standbyTicks .idle

/-- The pairs an environment presents to make the block read a byte (R62). -/
def pairsOf (p : Config.Params) (v : Byte) : List (Level × Level) :=
  (bitsOf v).map fun b => if b then p.rxOnePair else (!p.rxOnePair.1, !p.rxOnePair.2)

/-- An acknowledged byte frame that sends `v` with MAK or NoMAK. -/
def sentByte (p : Config.Params) (v : Byte) (mak : Bool) : List SlotRec :=
  txByteTrace v (if mak then p.makBit else !p.makBit) p.rxOnePair

/-- An acknowledged byte frame that receives `v` with MAK or NoMAK. -/
def receivedByte (p : Config.Params) (v : Byte) (mak : Bool) : List SlotRec :=
  rxByteTrace (pairsOf p v) (if mak then p.makBit else !p.makBit) p.rxOnePair

/-- R77: the payload of F_READ or F_WRITE: MAK on every byte but the last. -/
def payloadTrace (one : Byte → Bool → List SlotRec) : List Byte → List SlotRec
  | [] => []
  | [v] => one v false
  | v :: w :: vs => one v true ++ payloadTrace one (w :: vs)

/-- R68 to R72: an acknowledged frame, from its preamble to its idle drive. -/
def frameTrace (p : Config.Params) (body : List SlotRec) : List SlotRec :=
  startTrace p ++ sentByte p 0xA0#8 true ++ body ++ [.high]

/-- R67: the two address bytes, high byte first. -/
def addressTrace (p : Config.Params) (addr : Half) : List SlotRec :=
  sentByte p (addr.extractLsb' 8 8) true ++ sentByte p (addr.extractLsb' 0 8) true

/-- R69. -/
def wrenTrace (p : Config.Params) : List SlotRec := frameTrace p (sentByte p 0x96#8 false)

/-- R71. -/
def writeTrace (p : Config.Params) (addr : Half) (vs : List Byte) : List SlotRec :=
  frameTrace p (sentByte p 0x6C#8 true ++ addressTrace p addr ++ payloadTrace (sentByte p) vs)

/-- R72. -/
def pollTrace (p : Config.Params) (sts : List Byte) : List SlotRec :=
  frameTrace p (sentByte p 0x05#8 true ++ sts.flatMap fun b => receivedByte p b true)

/-- R70. -/
def readTrace (p : Config.Params) (addr : Half) (vs : List Byte) : List SlotRec :=
  frameTrace p (sentByte p 0x03#8 true ++ addressTrace p addr ++ payloadTrace (receivedByte p) vs)

/-- The slot trace after the slots `xs` (oldest first) have been taken from `s`. -/
def State.wireAfter (s : State) (xs : List SlotRec) : List SlotRec := xs.reverse ++ s.wire

/-! ### What a byte frame leaves (R110 to R112, R117) -/

/-- After an acknowledge exchange that samples its slave cell: cells 8 and 9, and the two escalations (R112). -/
def State.afterAck (s : State) (traceSoFar : List SlotRec) : State :=
  let x := s.nextPair
  let l := s.lerr || readsInvalid s.params x
  { s with
    tickPending := false
    dir := .input
    lvl := makBitOf s.params s.makf
    s1 := x.1
    s2 := x.2
    sampleOut := x.2
    bitres := outcomeOf s.params x
    lerr := l
    cerr := s.cerr || !readsOne s.params x || l
    samples := (s.afterPairs 1).samples
    free := (s.afterPairs 1).free
    seq.cell := 0
    seq.ph := 0
    wire := s.wireAfter (traceSoFar ++ txTrace (makBitOf s.params s.makf) ++ rxTrace x) }

/-- After a checked byte frame that sends `v` (R110): TXB has been shifted out. -/
def State.afterTxByte (s : State) (v : Byte) : State :=
  { s with txb := 0#8 }.afterAck ((bitsOf v).flatMap txTrace)

/-- After the synchronization byte frame (R117): its slave cell is not sampled; LERR of an earlier frame of the attempt is
escalated as after every byte (R113). -/
def State.afterSync (s : State) : State :=
  { s with
    tickPending := false
    txb := 0#8
    makf := true
    dir := .input
    lvl := s.params.makBit
    cerr := s.cerr || s.lerr
    seq.cell := 0
    seq.ph := 0
    wire := s.wireAfter (syncTrace s.params.makBit) }

/-- After a received byte frame (R111): eight judged pairs, then the acknowledge exchange. -/
def State.afterRxByte (s : State) : State :=
  let xs := s.nextPairs 8
  { s with
    rxb := byteOfPairs s.params xs
    lerr := s.lerr || xs.any (readsInvalid s.params)
    samples := (s.afterPairs 8).samples
    free := (s.afterPairs 8).free }.afterAck (xs.flatMap rxTrace)

/-! ### Slot counts (R141), with the parameters of the block -/

/-- FSTART. -/
def startSlots (p : Config.Params) : Nat := p.quietTicks + p.hdrLowTicks + 40
/-- F_WREN. -/
def wrenSlots (p : Config.Params) : Nat := p.quietTicks + p.hdrLowTicks + 121
/-- F_PRESENCE. -/
def presenceSlots (p : Config.Params) : Nat := p.quietTicks + p.hdrLowTicks + 161
/-- F_READ and F_WRITE of `n` bytes. -/
def transferSlots (p : Config.Params) (n : Nat) : Nat := p.quietTicks + p.hdrLowTicks + 201 + 40 * n
/-- F_POLL with `k` status bytes. -/
def pollSlots (p : Config.Params) (k : Nat) : Nat := p.quietTicks + p.hdrLowTicks + 121 + 40 * k
/-- SPULSE. -/
def pulseSlots (p : Config.Params) : Nat := 1 + p.standbyTicks

/-! ### What the environment's answers make of an attempt (R164, R166 to R168) -/

/-- A READ frame of `n` bytes that begins now records no error. -/
def State.readClean (s : State) (n : Nat) : Bool :=
  s.acksAt 4 && (List.range n).all fun i => s.cleanAt (4 + 9 * i)

/-- The bytes that a READ frame of `n` bytes that begins now receives. -/
def State.readBytes (s : State) (n : Nat) : List Byte := (List.range n).map fun i => s.byteAt (4 + 9 * i)

/-- R138: how many status bytes an F_POLL that begins now reads: up to the first with WIP clear, at most 120. -/
def State.pollCount (s : State) : Nat :=
  ((List.range 119).findIdx fun j => s.byteAt (2 + 9 * j) &&& s.params.wipMask == 0#8) + 1

/-- An F_POLL that begins now records no error, the ceiling's among them. -/
def State.pollClean (s : State) : Bool :=
  s.acksAt 2 && ((List.range s.pollCount).all fun j => s.cleanAt (2 + 9 * j)) &&
    s.byteAt (2 + 9 * (s.pollCount - 1)) &&& s.params.wipMask == 0#8

/-- The outcome of up to some attempts: whether one succeeded, how many were made, how many received cells and how many slots
they took, and the bytes they leave in the destination. -/
structure Attempts where
  ok : Bool
  tries : Nat
  cells : Nat
  slots : Nat
  bytes : List Byte
  deriving DecidableEq, Repr

/-- R166, R168: at most `k` READ attempts of `n` bytes from now on: the first clean one ends them, a pulse follows every other,
and with none left the bytes are zero. -/
def readAttempts (n : Nat) : Nat → State → Attempts
  | 0, _ => ⟨false, 0, 0, 0, List.replicate n 0#8⟩
  | k + 1, s =>
    let slots := transferSlots s.params n
    if s.readClean n then ⟨true, 1, 4 + 9 * n, slots, s.readBytes n⟩
    else
      let r := readAttempts n k (s.afterPairs (4 + 9 * n))
      ⟨r.ok, r.tries + 1, 4 + 9 * n + r.cells, slots + pulseSlots s.params + r.slots, r.bytes⟩

/-- R164: the received cells of the three write frames of an attempt that begins now. -/
def State.writeCells (s : State) (n : Nat) : Nat := 6 + n + (2 + 9 * (s.afterPairs (6 + n)).pollCount)

/-- R164: the three write frames of an attempt that begins now record no error. -/
def State.writeClean (s : State) (n : Nat) : Bool :=
  s.acksAt 2 && (s.afterPairs 2).acksAt (4 + n) && (s.afterPairs (6 + n)).pollClean

/-- R167: the verify of an attempt whose payload is `vs`, with the read-back's outcome. -/
def verifyPasses (p : Config.Params) (vs : List Byte) (r : Attempts) : Bool :=
  r.bytes == vs && (r.ok || !p.verifyUsesReadStatus)

/-- R164, R168: at most `k` WRITE attempts of the payload `vs` from now on: each F_WREN, F_WRITE and F_POLL; with an error in
them a pulse; without one the read-back, and a pulse if the verify fails. -/
def writeAttempts (vs : List Byte) : Nat → State → Attempts
  | 0, _ => ⟨false, 0, 0, 0, []⟩
  | k + 1, s =>
    let c := s.writeCells vs.length
    let slots := wrenSlots s.params + transferSlots s.params vs.length +
      pollSlots s.params (s.afterPairs (6 + vs.length)).pollCount
    let v := readAttempts vs.length 3 (s.afterPairs c)
    if s.writeClean vs.length then
      if verifyPasses s.params vs v then ⟨true, 1, c + v.cells, slots + v.slots, v.bytes⟩
      else
        let r := writeAttempts vs k (s.afterPairs (c + v.cells))
        ⟨r.ok, r.tries + 1, c + v.cells + r.cells, slots + v.slots + pulseSlots s.params + r.slots, r.bytes⟩
    else
      let r := writeAttempts vs k (s.afterPairs c)
      ⟨r.ok, r.tries + 1, c + r.cells, slots + pulseSlots s.params + r.slots, r.bytes⟩

/-! ### Safe states -/

/-- The ranges of the counters and of N (R19, R26, R83), and both buffers in canonical form. -/
def InRange (s : State) : Prop :=
  s.n ≤ 16 ∧ s.seq.att ≤ 3 ∧ s.seq.vatt ≤ 3 ∧ s.seq.idx ≤ 15 ∧ s.seq.pcnt ≤ 120 ∧
    s.buf.wf = true ∧ s.vbuf.wf = true

/-- The zero-time steps that end a host operation's plan: only they complete an operation, or go on with it. -/
def ZeroStep.ends : ZeroStep → Bool
  | .finishPresence | .finishRead | .finishStandby | .writeAttempt | .writeDecide | .verifyDecide => true
  | .phase _ | .cell _ | .frameStep _ | .frameDone | .setWait _ | .waitDown | .hold | .txData | .txShift | .rxShift
  | .latchS1 | .latchS2 | .judge | .slaveCheck | .escalate | .makf _ | .latchPres | .payload | .readByte _ | .readNext _
  | .writeByte | .writeNext | .pollStart | .pollByte | .pollTest | .lock _ | .readAttempt _ | .readDecide _
  | .compare => false

/-- The instructions that the host issues. -/
def issuedByHost : Instr → Bool
  | .presence _ _ | .read _ _ | .write _ _ | .standby _ _ | .start => true
  | .waittick | .slot _ | .driveHigh | .driveLow | .release | .sample | .noaction | .cleartick | .txbit _ | .txbitOne
  | .txbitZero | .rxbit | .rxbitOne | .rxbitZero | .rxbitInvalidLL | .rxbitInvalidHH | .mak | .nomak | .sak | .txbyte _
  | .txbyteSync | .rxbyte | .ackx _ | .syncByte | .deviceAddress | .cmdRdsr | .cmdWren | .cmdRead | .cmdWrite | .fstart
  | .fend | .spulse | .addressed _ _ _ | .fPresence | .fWren | .fRead _ | .fWrite | .fPoll | .readcore _ | .verify
  | .linkreset => false

/-- A position inside an operation: it neither starts nor ends one. -/
def Micro.inner : Micro → Bool
  | .op i => !issuedByHost i
  | .act z => !z.ends
  | .word _ _ => false

/-- The last position of an operation's plan. -/
def Micro.last : Micro → Bool
  | .act z => z.ends
  | .op _ => false
  | .word _ _ => false

/-- Ownership (R22, R23, R161, R212, R213): an idle block has nothing to run, LOCK = 0 and SEQ idle; a busy block runs a plan
of inner positions that one ending position closes. -/
def Owned (s : State) : Prop :=
  (s.busy = false → s.plan = [] ∧ s.lock = false ∧ s.seq = Seq.idle) ∧
  (s.busy = true → ∃ ms m, s.plan = ms ++ [m] ∧ ms.all Micro.inner = true ∧ m.last = true)

/-- The frames of R133 to R138 and their preamble: they run inside an attempt's locked section only (R169). -/
def isFrame : Instr → Bool
  | .fstart | .addressed _ _ _ | .fPresence | .fWren | .fRead _ | .fWrite | .fPoll => true
  | .waittick | .slot _ | .driveHigh | .driveLow | .release | .sample | .noaction | .cleartick | .txbit _ | .txbitOne
  | .txbitZero | .rxbit | .rxbitOne | .rxbitZero | .rxbitInvalidLL | .rxbitInvalidHH | .mak | .nomak | .sak | .txbyte _
  | .txbyteSync | .rxbyte | .ackx _ | .syncByte | .deviceAddress | .cmdRdsr | .cmdWren | .cmdRead | .cmdWrite
  | .fend | .spulse | .presence _ _ | .read _ _ | .write _ _ | .standby _ _ | .start | .readcore _ | .verify
  | .linkreset => false

/-- What runs with LOCK = 0 only (R169): a pulse, the LinkReset that opens an attempt, and what makes attempts. -/
def betweenAttempts : Instr → Bool
  | .spulse | .linkreset | .readcore _ | .verify => true
  | .waittick | .slot _ | .driveHigh | .driveLow | .release | .sample | .noaction | .cleartick | .txbit _ | .txbitOne
  | .txbitZero | .rxbit | .rxbitOne | .rxbitZero | .rxbitInvalidLL | .rxbitInvalidHH | .mak | .nomak | .sak | .txbyte _
  | .txbyteSync | .rxbyte | .ackx _ | .syncByte | .deviceAddress | .cmdRdsr | .cmdWren | .cmdRead | .cmdWrite | .fstart
  | .fend | .addressed _ _ _ | .fPresence | .fWren | .fRead _ | .fWrite | .fPoll | .presence _ _ | .read _ _ | .write _ _
  | .standby _ _ | .start => false

/-- The zero-time steps taken with LOCK = 0 only: the decisions (R169: "LOCK = 0 ... during the zero-time decisions"). -/
def ZeroStep.decision : ZeroStep → Bool
  | .readAttempt _ | .readDecide _ | .compare | .writeAttempt | .writeDecide | .verifyDecide | .finishPresence
  | .finishRead | .finishStandby => true
  | .phase _ | .cell _ | .frameStep _ | .frameDone | .setWait _ | .waitDown | .hold | .txData | .txShift | .rxShift
  | .latchS1 | .latchS2 | .judge | .slaveCheck | .escalate | .makf _ | .latchPres | .payload | .readByte _ | .readNext _
  | .writeByte | .writeNext | .pollStart | .pollByte | .pollTest | .lock _ => false

/-- What a pulse is made of besides its instruction (R132): the slots `H` and `-` and the counting of them. -/
def Micro.ofPulse : Micro → Bool
  | .op (.slot .high) | .op (.slot .idle) | .act (.setWait _) | .act .waitDown | .act .hold | .act .frameDone => true
  | .op _ | .act _ | .word _ _ => false

/-- Whether a position may be run with LOCK as it is: with LOCK = 1 the frames of an attempt and all they are made of; with
LOCK = 0 the pulses, the resets and the decisions, and nothing of a frame. -/
def Micro.fitsLock (lock : Bool) : Micro → Bool
  | .op i =>
    if lock then !issuedByHost i && !betweenAttempts i else betweenAttempts i || (Micro.op i).ofPulse
  | .act z => if lock then !z.decision else z.decision || (Micro.act z).ofPulse
  | .word _ _ => false

/-- A plan keeps the lock rule (R169) from a value of LOCK on: LOCK is set and cleared in turn, everything between fits the
value it then has, and it ends cleared. -/
def lockedPlan : Bool → List Micro → Bool
  | lock, [] => !lock
  | lock, .act (.lock b) :: ms => (b != lock) && lockedPlan b ms
  | lock, m :: ms => m.fitsLock lock && lockedPlan lock ms

/-- R22, R169: what is still to be run keeps the lock rule from LOCK as it is. -/
def LockKept (s : State) : Prop := lockedPlan s.lock s.plan = true

/-- BUF[0..k-1] have been written (R219: the host's duty before a WRITE). -/
def Written (s : State) (k : Nat) : Prop := ∀ i, i < k → (s.buf.read i).isSome = true

/-- The positions at which an error changes what follows (R170, R201): the decisions after the frames of an attempt. -/
def ZeroStep.decides : ZeroStep → Bool
  | .readDecide _ | .writeDecide => true
  | .phase _ | .cell _ | .frameStep _ | .frameDone | .setWait _ | .waitDown | .hold | .txData | .txShift | .rxShift
  | .latchS1 | .latchS2 | .judge | .slaveCheck | .escalate | .makf _ | .latchPres | .payload | .readByte _ | .readNext _
  | .writeByte | .writeNext | .pollStart | .pollByte | .pollTest | .lock _ | .readAttempt _ | .compare
  | .writeAttempt | .verifyDecide | .finishPresence | .finishRead | .finishStandby => false

/-- The position of the plan that the next step runs, a table word read as the instruction it decodes to; none where an
agent outside the block moves, or the sequencer waits or is idle. -/
def State.running (s : State) : Option Micro :=
  let pos : Option Micro :=
    match s.plan with
    | .word nbits w :: _ => (decodeTableWord nbits w).map Micro.op
    | m :: _ => some m
    | [] => none
  match s.schedule with
  | [] => if waiting s then none else pos
  | .sequencer :: _ => pos
  | _ :: _ => none

/-- The host's action in the next step, if the step is the host's. -/
def State.hostMove (s : State) : Option HostAction :=
  match s.schedule with
  | .host a :: _ => some a
  | _ => none

/-- What a safe run is: neither a fault nor a refusal. -/
def SafeRun (n : Nat) (s : State) : Prop := ∃ t, run n s = .next t

end Sys2Proof.Machine
end

