-- ==== Sys2Proof/Certificates/Slice0/Obligations.lean ====
section
/-! DEFINITION. The statements for the provers. Each docstring names the rule of spec/ it formalises, or the log entry it rests on.
A statement `Completes i s post` says that exec i s answers a next state, from which the machine reaches a state where what i
planned has been run, the rest of the plan is as before, and `post` holds. Where `post` equates the state reached with an
update of s, every field the update does not name is unchanged: that is the instruction's frame. -/

open Sys2Proof Sys2Proof.Machine

/-! ### Reset -/

/-- R32, R230: the elements to which the reset table gives a value. The values of the others are the model's (log 5). -/
def Obligations.ResetGivesTheTable : Prop :=
  State.reset.busy = false ∧ State.reset.lock = false ∧ State.reset.dir = .input ∧ State.reset.lvl = true ∧
    State.reset.seq = ⟨.idle, 0, 0, .none, .idle, 0, 0, 0, 0, 0⟩

/-- R230, with log 12 (the block accepts RESET at any time): the same table in a running machine; the tick flag, the
environment, the parameters and the slot trace are untouched, and both buffers hold nothing. -/
def Obligations.RunningResetGivesTheTable : Prop :=
  ∀ s ms, s.schedule = .host .reset :: ms → ∃ t, step s = .next t ∧
    t.busy = false ∧ t.lock = false ∧ t.dir = .input ∧ t.lvl = true ∧
    t.seq = ⟨.idle, 0, 0, .none, .idle, 0, 0, 0, 0, 0⟩ ∧ t.plan = [] ∧ (∀ d i, (t.buffer d).read i = none) ∧
    t.tickPending = s.tickPending ∧ t.tickOn = s.tickOn ∧ t.bitPeriod = s.bitPeriod ∧ t.samples = s.samples ∧ t.params = s.params ∧
    t.wire = s.wire ∧ t.schedule = ms

/-- The state after reset meets the invariants (`StepKeepsTheRanges`, `StepKeepsOwnership`, `LockIsHeldExactlyInAttempts`). The
values R6 takes for the parameters are legal at every bit period R5 allows, the one the model starts with (log 8) among them. -/
def Obligations.ResetMeetsTheInvariants : Prop :=
  InRange State.reset ∧ Owned State.reset ∧ LockKept State.reset ∧
    (∀ tBit, 10000 ≤ tBit → tBit ≤ 100000 → Config.defaultParams.legal tBit = true) ∧
    State.reset.params.legal State.reset.bitPeriod = true

/-! ### Slot primitives -/

/-- R90, R241: WaitTick with a tick pending returns, leaving the flag clear. With none pending a WAITTICK or a slot stays where
it is: a step changes nothing if the tick source has stopped, and is the tick's delivery if it has not; a move the schedule
gives the sequencer only uses that move up. Whose move it is with none scheduled is the model's choice (log 9). -/
def Obligations.WaittickWaitsForATick : Prop :=
  (∀ s, s.tickPending = true → exec .waittick s = .next { s with tickPending := false }) ∧
  ∀ s i rest, (i = .waittick ∨ ∃ a, i = .slot a) → s.plan = .op i :: rest → s.tickPending = false →
    (s.schedule = [] → s.tickOn = false → step s = .next s) ∧
    (s.schedule = [] → s.tickOn = true → step s = .next { s with tickPending := true }) ∧
    (∀ ms, s.schedule = .sequencer :: ms → step s = .next { s with schedule := ms })

/-- R91, R92, R93, R94: a slot is one consumed tick and one action. A sample slot with the line driven is refused (U11, log 10). -/
def Obligations.SlotTakesOneTickAndActs : Prop :=
  ∀ s, s.tickPending = true →
    exec (.slot .high) s = .next { s with tickPending := false, lvl := true, dir := .output, wire := .high :: s.wire } ∧
    exec (.slot .low) s = .next { s with tickPending := false, lvl := false, dir := .output, wire := .low :: s.wire } ∧
    exec (.slot .release) s = .next { s with tickPending := false, dir := .input, wire := .release :: s.wire } ∧
    exec (.slot .idle) s = .next { s with tickPending := false, wire := .idle :: s.wire } ∧
    (s.dir = .input → exec (.slot .sample) s =
      .next { s with tickPending := false, sampleOut := s.lineLevel, samples := s.answered.samples,
                     free := s.answered.free, wire := .sample s.lineLevel :: s.wire }) ∧
    (s.dir = .output → exec (.slot .sample) s = .refused .sampleWhileDriving)

/-- R92, R93: `Drive(l)` sets level and direction as one action; `Release()` sets the direction only. -/
def Obligations.DriveAndReleaseSetTheLine : Prop :=
  ∀ s, exec .driveHigh s = .next { s with lvl := true, dir := .output } ∧
    exec .driveLow s = .next { s with lvl := false, dir := .output } ∧
    exec .release s = .next { s with dir := .input }

/-- R91, R95: the action `-` does nothing; ClearTick clears the tick flag. -/
def Obligations.NoactionAndCleartick : Prop :=
  ∀ s, exec .noaction s = .next s ∧ exec .cleartick s = .next { s with tickPending := false }

/-- R94: a sample returns the environment's next answer and changes nothing of the block; its answer is the environment's
(any value, U10), a free value where State lists none (log 7). With the line driven it is refused (U11, log 10). -/
def Obligations.SampleAnswersTheLine : Prop :=
  ∀ s, (s.dir = .input → exec .sample s = .next { s with sampleOut := s.lineLevel, samples := s.answered.samples,
                                                         free := s.answered.free }) ∧
    (s.dir = .output → exec .sample s = .refused .sampleWhileDriving) ∧
    (∀ l ls, s.samples = l :: ls → s.lineLevel = l ∧ s.answered.samples = ls ∧ s.answered.free = s.free)

/-- R33: LinkReset. -/
def Obligations.LinkresetClearsTheLinkState : Prop :=
  ∀ s, exec .linkreset s =
    .next { s with txb := 0x00#8, rxb := 0x00#8, makf := false, lerr := false, cerr := false, bitres := .invalid }

/-! ### The Bit Codec -/

/-- R96: TxBit(1) is `L-H-` and TxBit(0) is `H-L-`; it ends with DIR = OUT and LVL = b and touches no flag. -/
def Obligations.TxbitSendsItsSymbol : Prop :=
  ∀ s b, Ready s → Completes (.txbit b) s fun u =>
    u = { s with tickPending := false, dir := .output, lvl := b, seq.ph := 0,
                 wire := s.wireAfter (if b then [.low, .idle, .high, .idle] else [.high, .idle, .low, .idle]) }

/-- R61, R65: the rows TXBIT_1 and TXBIT_0, and the master acknowledge cells MAK (MAK_BIT) and NOMAK (its complement). -/
def Obligations.FixedTransmitCells : Prop :=
  ∀ s, Ready s →
    (Completes .txbitOne s fun u =>
      u = { s with tickPending := false, dir := .output, lvl := true, seq.ph := 0, wire := s.wireAfter (txTrace true) }) ∧
    (Completes .txbitZero s fun u =>
      u = { s with tickPending := false, dir := .output, lvl := false, seq.ph := 0, wire := s.wireAfter (txTrace false) }) ∧
    (Completes .mak s fun u =>
      u = { s with tickPending := false, dir := .output, lvl := s.params.makBit, seq.cell := 8, seq.ph := 0,
                   wire := s.wireAfter (txTrace s.params.makBit) }) ∧
    (Completes .nomak s fun u =>
      u = { s with tickPending := false, dir := .output, lvl := !s.params.makBit, seq.cell := 8, seq.ph := 0,
                   wire := s.wireAfter (txTrace (!s.params.makBit)) })

/-- R97: RxBit releases the line, samples at phases 1 and 3 and judges the pair: BITRES, and LERR where the pair is neither
RX_ONE_PAIR nor its complement; LERR is never cleared. The bit it returns, as R16 reads it from BITRES, is 1 only for
RX_ONE_PAIR. -/
def Obligations.RxbitJudgesItsPair : Prop :=
  ∀ s, Ready s → Completes .rxbit s fun u =>
    u = { s with tickPending := false, dir := .input, s1 := s.nextPair.1, s2 := s.nextPair.2, sampleOut := s.nextPair.2,
                 bitres := (if s.nextPair = s.params.rxOnePair then .one
                            else if s.nextPair = (!s.params.rxOnePair.1, !s.params.rxOnePair.2) then .zero else .invalid),
                 lerr := s.lerr || readsInvalid s.params s.nextPair,
                 samples := (s.afterPairs 1).samples, free := (s.afterPairs 1).free,
                 seq.ph := 0, wire := s.wireAfter (rxTrace s.nextPair) } ∧
    bitData u.bitres = decide (s.nextPair = s.params.rxOnePair)

/-- R62, with log 15 (the row is the cell whose pair the environment presents): RX_ONE_PAIR gives ONE, its complement ZERO,
LERR unchanged; (0,0) and (1,1) give INVALID and LERR = 1. -/
def Obligations.ReceivedSymbols : Prop :=
  ∀ s, Ready s → s.params.sound = true →
    let cell (x : Level × Level) (r : BitRes) (l : Bool) : State :=
      { s with tickPending := false, dir := .input, s1 := x.1, s2 := x.2, sampleOut := x.2, bitres := r, lerr := l,
               seq.ph := 0, wire := s.wireAfter (rxTrace x) }
    (Completes .rxbitOne s fun u => u = cell s.params.rxOnePair .one s.lerr) ∧
    (Completes .rxbitZero s fun u => u = cell (!s.params.rxOnePair.1, !s.params.rxOnePair.2) .zero s.lerr) ∧
    (Completes .rxbitInvalidLL s fun u => u = cell (false, false) .invalid true) ∧
    (Completes .rxbitInvalidHH s fun u => u = cell (true, true) .invalid true)

/-- R66, with log 16: SAK is the slave cell that reads ONE; it records no error. -/
def Obligations.SakIsAnAcknowledgedCell : Prop :=
  ∀ s, Ready s → Completes .sak s fun u =>
    u = { s with tickPending := false, dir := .input, s1 := s.params.rxOnePair.1, s2 := s.params.rxOnePair.2,
                 sampleOut := s.params.rxOnePair.2, bitres := .one, seq.cell := 9, seq.ph := 0,
                 wire := s.wireAfter (rxTrace s.params.rxOnePair) }

/-- R100: with the document's RX_ONE_PAIR, the two half levels of a transmitted bit `b` would be received as `NOT b`, without
error, and those of a transmitted byte `v` as `NOT v`. -/
def Obligations.LoopBackReadsTheComplement : Prop :=
  (∀ b : Bit, judgePair Config.defaultParams (firstHalf b) (secondHalf b) = (if b then .zero else .one) ∧
    bitData (judgePair Config.defaultParams (firstHalf b) (secondHalf b)) = !b ∧
    lerrAfter false (judgePair Config.defaultParams (firstHalf b) (secondHalf b)) = false) ∧
  (∀ v : Byte, byteOfPairs Config.defaultParams ((bitsOf v).map fun b => (firstHalf b, secondHalf b)) = ~~~v ∧
    ((bitsOf v).map fun b => (firstHalf b, secondHalf b)).any (readsInvalid Config.defaultParams) = false)

/-! ### The Byte Framer -/

/-- R112: AckX sends the bit of MAKF, then either judges the slave cell (CERR where it is not ONE) or leaves it unsampled,
and escalates LERR to CERR. -/
def Obligations.AckxExchangesAcknowledges : Prop :=
  ∀ s, Ready s →
    (Completes (.ackx true) s fun u => u = s.afterAck []) ∧
    (Completes (.ackx false) s fun u =>
      u = { s with tickPending := false, dir := .input, lvl := makBitOf s.params s.makf, cerr := s.cerr || s.lerr,
                   seq.cell := 0, seq.ph := 0,
                   wire := s.wireAfter (txTrace (makBitOf s.params s.makf) ++ [.release, .idle, .idle, .idle]) })

/-- R110: TxByte sends bit 7 first, then exchanges acknowledges; TXB ends 0x00; the data cells touch no flag. The mode
`check` is true but for the synchronization byte, the only byte sent with it false. -/
def Obligations.TxbyteSendsMostSignificantFirst : Prop :=
  ∀ s, Ready s →
    (∀ v, Completes (.txbyte v) s fun u => u = s.afterTxByte v) ∧
    (Completes .txbyteSync s fun u => u = s.afterSync)

/-- R117: the synchronization byte: MAKF = 1, its slave cell unsampled, LERR and BITRES untouched. In the row SYNC_BYTE the
frame step is SYNC (R139). -/
def Obligations.SyncFrameIsUnchecked : Prop :=
  ∀ s, Ready s →
    (Completes .txbyteSync s fun u => u = s.afterSync) ∧
    (Completes .syncByte s fun u => u = { s with seq.fst := .sync }.afterSync)

/-- R74, R77, with log 17: the byte values with a fixed position in a frame, each sent with its master acknowledge. -/
def Obligations.FixedBytesOfAFrame : Prop :=
  ∀ s, Ready s →
    (Completes .deviceAddress s fun u => u = { s with makf := true, seq.fst := .devaddr }.afterTxByte 0xA0#8) ∧
    (Completes .cmdRdsr s fun u => u = { s with makf := true, seq.fst := .command }.afterTxByte 0x05#8) ∧
    (Completes .cmdWren s fun u => u = { s with makf := false, seq.fst := .command }.afterTxByte 0x96#8) ∧
    (Completes .cmdRead s fun u => u = { s with makf := true, seq.fst := .command }.afterTxByte 0x03#8) ∧
    (Completes .cmdWrite s fun u => u = { s with makf := true, seq.fst := .command }.afterTxByte 0x6C#8)

/-- R111: RxByte assembles the eight judged bits, the first in bit 7, no bit of the old RXB surviving, whether or not pairs
were invalid, then exchanges acknowledges. -/
def Obligations.RxbyteAssemblesTheByte : Prop :=
  ∀ s, Ready s → Completes .rxbyte s fun u => u = s.afterRxByte

/-! ### The Frame Builder -/

/-- R130: the preamble: QUIET_TICKS slots high, HDR_LOW_TICKS slots low, the synchronization byte; it takes no sample. -/
def Obligations.FstartIsThePreamble : Prop :=
  ∀ s, Ready s → s.params.sound = true → Completes .fstart s fun u =>
    u = { s with tickPending := false, txb := 0#8, makf := true, dir := .input, lvl := s.params.makBit,
                 cerr := s.cerr || s.lerr, seq.fst := .sync, seq.wait := 0, seq.cell := 0, seq.ph := 0,
                 wire := s.wireAfter (startTrace s.params) }

/-- R131: one slot that drives the line high, after which the frame is over. -/
def Obligations.FendDrivesIdle : Prop :=
  ∀ s, Ready s → Completes .fend s fun u =>
    u = { s with tickPending := false, dir := .output, lvl := true, seq.fst := .idle, seq.frame := .none,
                 wire := .high :: s.wire }

/-- R132: the line is driven high for STANDBY_TICKS more slots; no flag and no link state is touched. -/
def Obligations.SpulseHoldsHigh : Prop :=
  ∀ s, Ready s → Completes .spulse s fun u =>
    u = { s with tickPending := false, dir := .output, lvl := true, seq.fst := .idle, seq.frame := .none, seq.wait := 0,
                 wire := s.wireAfter (.high :: List.replicate s.params.standbyTicks .idle) }

/-- R135: the device address byte with MAK, the command byte with its acknowledge and, where asked, ADDR high then low with
MAK; for every operand, the frame steps as R139 has them. -/
def Obligations.AddressedSendsTheHeader : Prop :=
  ∀ s c mc, Ready s →
    let a : State := { s with makf := true, seq.fst := .devaddr }.afterTxByte 0xA0#8
    let b : State := { a with makf := mc, seq.fst := .command }.afterTxByte c
    let h : State := { b with makf := true, seq.fst := .addrh }.afterTxByte (s.addr.extractLsb' 8 8)
    (Completes (.addressed c mc false) s fun u => u = b) ∧
    (Completes (.addressed c mc true) s fun u =>
      u = { h with makf := true, seq.fst := .addrl }.afterTxByte (s.addr.extractLsb' 0 8))

/-- R133, R68: the slot string of F_PRESENCE, its slave cells judged, PRES latched right after the device address byte, the
status byte in RXB only. -/
def Obligations.FPresenceLatchesTheAddressAcknowledge : Prop :=
  ∀ s, Ready s → s.params.sound = true → Completes .fPresence s fun u =>
    u = { s with
      txb := 0#8, rxb := s.byteAt 2, makf := false
      pres := !(s.cerr || s.lerr) && readsOne s.params (s.pairAt 0)
      lerr := s.lerr || (s.nextPairs 11).any (readsInvalid s.params)
      cerr := s.cerr || s.lerr || !(s.acksAt 2 && s.cleanAt 2)
      bitres := outcomeOf s.params (s.pairAt 10), s1 := (s.pairAt 10).1, s2 := (s.pairAt 10).2
      sampleOut := (s.pairAt 10).2, samples := (s.afterPairs 11).samples, free := (s.afterPairs 11).free
      dir := .output, lvl := true, tickPending := false
      seq := { s.seq with frame := .none, fst := .idle, idx := 0, cell := 0, ph := 0, wait := 0 }
      wire := s.wireAfter (startTrace s.params ++
        txByteTrace 0xA0#8 s.params.makBit (s.pairAt 0) ++ txByteTrace 0x05#8 s.params.makBit (s.pairAt 1) ++
        rxByteTrace ((s.afterPairs 2).nextPairs 8) (!s.params.makBit) (s.pairAt 10) ++ [.high]) }

/-- R134, R69: the slot string of F_WREN and its two slave cells judged. -/
def Obligations.FWrenSendsWriteEnable : Prop :=
  ∀ s, Ready s → s.params.sound = true → Completes .fWren s fun u =>
    u = { s with
      txb := 0#8, makf := false
      lerr := s.lerr || (s.nextPairs 2).any (readsInvalid s.params)
      cerr := s.cerr || s.lerr || !s.acksAt 2
      bitres := outcomeOf s.params (s.pairAt 1), s1 := (s.pairAt 1).1, s2 := (s.pairAt 1).2
      sampleOut := (s.pairAt 1).2, samples := (s.afterPairs 2).samples, free := (s.afterPairs 2).free
      dir := .output, lvl := true, tickPending := false
      seq := { s.seq with frame := .none, fst := .idle, cell := 0, ph := 0, wait := 0 }
      wire := s.wireAfter (startTrace s.params ++
        txByteTrace 0xA0#8 s.params.makBit (s.pairAt 0) ++ txByteTrace 0x96#8 (!s.params.makBit) (s.pairAt 1) ++
        [.high]) }

/-- R136, R70: the slot string of F_READ; payload byte i is stored to index i of the destination as it was received, errors
or not; every other index and the other buffer keep their values; CERR tells whether every cell was clean. That IDX ends at
N-1 is the model's reading (log 14), and that N = 0 has an empty payload the model's choice (log 29). -/
def Obligations.FReadStoresThePayload : Prop :=
  ∀ s d, Ready s → s.params.sound = true → s.n ≤ 16 → Completes (.fRead d) s fun u =>
    u = { s with
      txb := 0#8, rxb := u.rxb, makf := u.makf, bitres := u.bitres, s1 := u.s1, s2 := u.s2, sampleOut := u.sampleOut
      buf := u.buf, vbuf := u.vbuf
      lerr := s.lerr || (s.nextPairs (4 + 9 * s.n)).any (readsInvalid s.params)
      cerr := s.cerr || s.lerr || !(s.acksAt 4 && (List.range s.n).all fun i => s.cleanAt (4 + 9 * i))
      samples := (s.afterPairs (4 + 9 * s.n)).samples, free := (s.afterPairs (4 + 9 * s.n)).free
      dir := .output, lvl := true, tickPending := false
      seq := { s.seq with frame := .none, fst := .idle, idx := s.n - 1, cell := 0, ph := 0, wait := 0 }
      wire := s.wireAfter (startTrace s.params ++
        txByteTrace 0xA0#8 s.params.makBit (s.pairAt 0) ++ txByteTrace 0x03#8 s.params.makBit (s.pairAt 1) ++
        txByteTrace (s.addr.extractLsb' 8 8) s.params.makBit (s.pairAt 2) ++
        txByteTrace (s.addr.extractLsb' 0 8) s.params.makBit (s.pairAt 3) ++
        ((List.range s.n).flatMap fun i =>
          rxByteTrace ((s.afterPairs (4 + 9 * i)).nextPairs 8) (makBitOf s.params (decide (i + 1 < s.n)))
            (s.pairAt (4 + 9 * i + 8))) ++ [.high]) } ∧
    (∀ i, (u.buffer d).read i = if i < s.n then some (s.byteAt (4 + 9 * i)) else (s.buffer d).read i) ∧
    (∀ e, e ≠ d → u.buffer e = s.buffer e)

/-- R137, R71: the slot string of F_WRITE, payload byte i being BUF[i]; no buffer is written; every slave cell judged.
That IDX ends at N-1 is the model's reading (log 14), and that N = 0 has an empty payload the model's choice (log 29). -/
def Obligations.FWriteSendsTheBuffer : Prop :=
  ∀ s, Ready s → s.params.sound = true → Written s s.n → Completes .fWrite s fun u =>
    u = { s with
      txb := 0#8, makf := u.makf, bitres := u.bitres, s1 := u.s1, s2 := u.s2, sampleOut := u.sampleOut
      lerr := s.lerr || (s.nextPairs (4 + s.n)).any (readsInvalid s.params)
      cerr := s.cerr || s.lerr || !s.acksAt (4 + s.n)
      samples := (s.afterPairs (4 + s.n)).samples, free := (s.afterPairs (4 + s.n)).free
      dir := .output, lvl := true, tickPending := false
      seq := { s.seq with frame := .none, fst := .idle, idx := s.n - 1, cell := 0, ph := 0, wait := 0 }
      wire := s.wireAfter (startTrace s.params ++
        txByteTrace 0xA0#8 s.params.makBit (s.pairAt 0) ++ txByteTrace 0x6C#8 s.params.makBit (s.pairAt 1) ++
        txByteTrace (s.addr.extractLsb' 8 8) s.params.makBit (s.pairAt 2) ++
        txByteTrace (s.addr.extractLsb' 0 8) s.params.makBit (s.pairAt 3) ++
        ((List.range s.n).flatMap fun i =>
          txByteTrace ((s.buf.read i).getD 0#8) (makBitOf s.params (decide (i + 1 < s.n))) (s.pairAt (4 + i))) ++
        [.high]) }

/-- R32, U15, C10: a payload byte of F_WRITE that nothing has written is a fault. -/
def Obligations.UnwrittenPayloadIsAFault : Prop :=
  ∀ s rest, s.schedule = [] → s.plan = .act .writeByte :: rest → s.seq.idx < s.n → s.buf.read s.seq.idx = none →
    step s = .fault (.unwrittenBuffer .buf s.seq.idx)

/-- R138, R72: F_POLL reads k status bytes, 1 <= k <= 120, each with MAK: k is the first whose WIP bit is clear, or 120 if
none is; E_WTIMEOUT (CERR = 1) exactly where the last one shows WIP set. That IDX stays 0 is the model's reading (log 14). -/
def Obligations.FPollReadsUntilClear : Prop :=
  ∀ s, Ready s → s.params.sound = true → Completes .fPoll s fun u =>
    ∃ k, 1 ≤ k ∧ k ≤ 120 ∧
      (∀ j, j + 1 < k → s.byteAt (2 + 9 * j) &&& s.params.wipMask ≠ 0#8) ∧
      (s.byteAt (2 + 9 * (k - 1)) &&& s.params.wipMask = 0#8 ∨ k = 120) ∧
      u = { s with
        txb := 0#8, rxb := s.byteAt (2 + 9 * (k - 1)), makf := true
        bitres := u.bitres, s1 := u.s1, s2 := u.s2, sampleOut := u.sampleOut
        lerr := s.lerr || (s.nextPairs (2 + 9 * k)).any (readsInvalid s.params)
        cerr := s.cerr || s.lerr || !(s.acksAt 2 && (List.range k).all fun j => s.cleanAt (2 + 9 * j)) ||
          s.byteAt (2 + 9 * (k - 1)) &&& s.params.wipMask != 0#8
        samples := (s.afterPairs (2 + 9 * k)).samples, free := (s.afterPairs (2 + 9 * k)).free
        dir := .output, lvl := true, tickPending := false
        seq := { s.seq with frame := .none, fst := .idle, idx := 0, pcnt := k, cell := 0, ph := 0, wait := 0 }
        wire := s.wireAfter (startTrace s.params ++
          txByteTrace 0xA0#8 s.params.makBit (s.pairAt 0) ++ txByteTrace 0x05#8 s.params.makBit (s.pairAt 1) ++
          ((List.range k).flatMap fun j =>
            rxByteTrace ((s.afterPairs (2 + 9 * j)).nextPairs 8) s.params.makBit (s.pairAt (2 + 9 * j + 8))) ++
          [.high]) }

/-! ### The Transaction Engine -/

/-- R166, R168, R141: ReadCore makes a attempts, 1 <= a <= 3, each F_READ, with one pulse after every failed one: the attempts
before the a-th are not clean; it succeeds exactly if the a-th is, with the bytes that attempt received; after three attempts
that are not clean indices 0 to N-1 are zero. The other indices, the other buffer, the other counter and everything outside the
frames' own state are unchanged, and LOCK ends 0. That N = 0 has an empty payload is the model's choice (log 29). -/
def Obligations.ReadcoreMakesAtMostThreeAttempts : Prop :=
  ∀ s d, Ready s → s.params.sound = true → s.n ≤ 16 → Completes (.readcore d) s fun u =>
    (∃ a, 1 ≤ a ∧ a ≤ 3 ∧ u.readCount d = a ∧
      (∀ j, j + 1 < a → (s.afterPairs (j * (4 + 9 * s.n))).readClean s.n = false) ∧
      u.samples = (s.afterPairs (a * (4 + 9 * s.n))).samples ∧ u.free = (s.afterPairs (a * (4 + 9 * s.n))).free ∧
      ((u.callOk = true ∧ (s.afterPairs ((a - 1) * (4 + 9 * s.n))).readClean s.n = true ∧
          (∀ i, i < s.n → (u.buffer d).read i = some ((s.afterPairs ((a - 1) * (4 + 9 * s.n))).byteAt (4 + 9 * i))) ∧
          u.wire.length = s.wire.length + a * transferSlots s.params s.n + (a - 1) * pulseSlots s.params) ∨
       (u.callOk = false ∧ a = 3 ∧ (s.afterPairs ((a - 1) * (4 + 9 * s.n))).readClean s.n = false ∧
          (∀ i, i < s.n → (u.buffer d).read i = some 0x00#8) ∧
          u.wire.length = s.wire.length + 3 * (transferSlots s.params s.n + pulseSlots s.params)))) ∧
    (∀ i, i < s.n → ((u.buffer d).read i).isSome = true) ∧
    (∀ i, s.n ≤ i → (u.buffer d).read i = (s.buffer d).read i) ∧
    (∀ e, e ≠ d → u.buffer e = s.buffer e ∧ u.readCount e = s.readCount e) ∧
    u = { s with
      txb := u.txb, rxb := u.rxb, makf := u.makf, lerr := u.lerr, cerr := !u.callOk, bitres := u.bitres
      buf := u.buf, vbuf := u.vbuf, lock := false, dir := .output, lvl := true, s1 := u.s1, s2 := u.s2
      seq := { s.seq with att := u.seq.att, vatt := u.seq.vatt, frame := .none, fst := .idle, idx := u.seq.idx,
                          cell := 0, ph := 0, wait := 0 }
      tickPending := false, samples := u.samples, free := u.free, sampleOut := u.sampleOut, callOk := u.callOk
      wire := u.wire }

/-- R167: Verify reads back into VBUF and passes when every byte 0..N-1 agrees with BUF and, where the parameter asks for it,
the read-back itself succeeded (CERR = 0 after it). BUF and ATT are unchanged. That N = 0 has an empty payload is the model's
choice (log 29). -/
def Obligations.VerifyComparesTheReadBack : Prop :=
  ∀ s, Ready s → s.params.sound = true → s.n ≤ 16 → Written s s.n → Completes .verify s fun u =>
    (u.callOk = true ↔
      (∀ i, i < s.n → u.vbuf.read i = s.buf.read i) ∧ (s.params.verifyUsesReadStatus = true → u.cerr = false)) ∧
    (u.cerr = true → ∀ i, i < s.n → u.vbuf.read i = some 0x00#8) ∧
    (∀ i, s.n ≤ i → u.vbuf.read i = s.vbuf.read i) ∧
    u = { s with
      txb := u.txb, rxb := u.rxb, makf := u.makf, lerr := u.lerr, cerr := u.cerr, bitres := u.bitres
      vbuf := u.vbuf, lock := false, dir := .output, lvl := true, s1 := u.s1, s2 := u.s2
      seq := { s.seq with top := .write, vatt := u.seq.vatt, frame := .none, fst := .idle, idx := u.seq.idx,
                          cell := 0, ph := 0, wait := 0 }
      tickPending := false, samples := u.samples, free := u.free, sampleOut := u.sampleOut, callOk := u.callOk
      wire := u.wire }

/-- R162: PRESENCE makes one F_PRESENCE; RESULT tells whether the device address byte was acknowledged, whatever follows; the
line ends driven high and the block idle. That every counter of SEQ is 0 at the end is the model's reading of R213 (log 13). -/
def Obligations.PresenceAnswersTheAddressAcknowledge : Prop :=
  ∀ s len addr, Ready s → s.params.sound = true → s.busy = false → Completes (.presence len addr) s fun u =>
    u.result = readsOne s.params (s.pairAt 0) ∧
    u.wire.length = s.wire.length + presenceSlots s.params ∧
    u = { s with
      op := 0#2, len := len, addr := addr
      txb := u.txb, rxb := u.rxb, makf := u.makf, lerr := u.lerr, cerr := u.cerr, bitres := u.bitres
      pres := u.result, result := u.result, busy := false, lock := false, dir := .output, lvl := true
      s1 := u.s1, s2 := u.s2, seq := Seq.idle, tickPending := false
      samples := (s.afterPairs 11).samples, free := (s.afterPairs 11).free, sampleOut := u.sampleOut, wire := u.wire }

/-- R163, R166, R168, R171: a READ of at least one byte completes; with RESULT = 1 after a clean attempt, or with RESULT = 0
after exactly three attempts and BUF[0..N-1] all zero. BUF[i] for i >= N and VBUF keep their values. That every counter of SEQ
is 0 at the end is the model's reading (log 13). -/
def Obligations.ReadEndsWithDataOrZero : Prop :=
  ∀ s len addr, Ready s → s.params.sound = true → s.busy = false → len ≠ 0#8 →
    let n := min len.toNat 16
    Completes (.read len addr) s fun u =>
      (u.result = true ∧ (∃ a, 1 ≤ a ∧ a ≤ 3 ∧
          u.wire.length = s.wire.length + a * transferSlots s.params n + (a - 1) * pulseSlots s.params) ∨
       u.result = false ∧ (∀ i, i < n → u.buf.read i = some 0x00#8) ∧
          u.wire.length = s.wire.length + 3 * (transferSlots s.params n + pulseSlots s.params)) ∧
      (∀ i, i < n → (u.buf.read i).isSome = true) ∧
      (∀ i, n ≤ i → u.buf.read i = s.buf.read i) ∧
      u = { s with
        op := 1#2, len := len, addr := addr, n := n
        txb := u.txb, rxb := u.rxb, makf := u.makf, lerr := u.lerr, cerr := !u.result, bitres := u.bitres
        result := u.result, buf := u.buf, busy := false, lock := false, dir := .output, lvl := true
        s1 := u.s1, s2 := u.s2, seq := Seq.idle, tickPending := false, samples := u.samples, free := u.free
        sampleOut := u.sampleOut, callOk := u.callOk, wire := u.wire }

/-- R163, R136, R111: where the line presents the answers of an acknowledging device with payload `vs`, a READ of that length
takes one attempt, returns 1 and leaves exactly `vs` in BUF. The device's behaviour is the premise (R42). -/
def Obligations.ReadReturnsWhatTheLinePresents : Prop :=
  ∀ s len addr vs ls, Ready s → s.params.sound = true → s.busy = false → len ≠ 0#8 →
    vs.length = min len.toNat 16 → s.samples = answersRead s.params vs ++ ls →
    Completes (.read len addr) s fun u =>
      u.result = true ∧ (∀ i, i < vs.length → u.buf.read i = vs[i]?) ∧ u.samples = ls ∧ u.free = s.free ∧
      u.busy = false ∧ u.wire.length = s.wire.length + transferSlots s.params vs.length

/-- R164, R167, R168, R171: a WRITE of at least one byte whose payload the host has written completes within the bound, with
the result, the received cells and the slots of its attempts (`writeAttempts`: at most three, each F_WREN, F_WRITE and F_POLL,
and the read-back where these record no error; so exactly three where RESULT = 0). RESULT = 1 only if VBUF[0..N-1] equals
BUF[0..N-1] and, where the parameter asks for it, the read-back succeeded. BUF is never written. That every counter of SEQ is 0
at the end is the model's reading (log 13). -/
def Obligations.WriteReportsOnlyAVerifiedWrite : Prop :=
  ∀ s len addr, Ready s → s.params.sound = true → s.busy = false → len ≠ 0#8 →
    let n := min len.toNat 16
    let w := writeAttempts ((List.range n).map fun i => (s.buf.read i).getD 0#8) 3 s
    Written s n → Completes (.write len addr) s fun u =>
      u.result = w.ok ∧ (u.result = false → w.tries = 3) ∧
      u.samples = (s.afterPairs w.cells).samples ∧ u.free = (s.afterPairs w.cells).free ∧
      u.wire.length = s.wire.length + w.slots ∧
      (u.result = true → (∀ i, i < n → u.vbuf.read i = s.buf.read i) ∧
        (s.params.verifyUsesReadStatus = true → u.cerr = false)) ∧
      (∀ i, n ≤ i → u.vbuf.read i = s.vbuf.read i) ∧
      u.wire.length ≤ s.wire.length + 3 * (wrenSlots s.params + transferSlots s.params n + pollSlots s.params 120 +
        3 * (transferSlots s.params n + pulseSlots s.params) + pulseSlots s.params) ∧
      u = { s with
        op := 2#2, len := len, addr := addr, n := n
        txb := u.txb, rxb := u.rxb, makf := u.makf, lerr := u.lerr, cerr := u.cerr, bitres := u.bitres
        result := u.result, vbuf := u.vbuf, busy := false, lock := false, dir := .output, lvl := true
        s1 := u.s1, s2 := u.s2, seq := Seq.idle, tickPending := false, samples := u.samples, free := u.free
        sampleOut := u.sampleOut, callOk := u.callOk, wire := u.wire }

/-- R164, R137, R138, R167: where the line presents the answers of a device that acknowledges the write frames, shows WIP set
in fewer than 120 status bytes and then clear, and returns the payload, a WRITE takes one attempt and returns 1: exactly the
slots of F_WREN, F_WRITE, F_POLL and F_READ, with no pulse. The device's behaviour is the premise (R42). -/
def Obligations.WriteSucceedsWhereTheDeviceAnswers : Prop :=
  ∀ s len addr vs sts st ls, Ready s → s.params.sound = true → s.busy = false → len ≠ 0#8 →
    vs.length = min len.toNat 16 → (∀ i, i < vs.length → s.buf.read i = vs[i]?) →
    sts.length < 120 → (∀ x, x ∈ sts → x &&& s.params.wipMask ≠ 0#8) → st &&& s.params.wipMask = 0#8 →
    s.samples = answersWrite s.params vs (sts ++ [st]) ++ ls →
    Completes (.write len addr) s fun u =>
      u.result = true ∧ (∀ i, i < vs.length → u.vbuf.read i = vs[i]?) ∧ u.buf = s.buf ∧ u.busy = false ∧
      u.samples = ls ∧ u.free = s.free ∧
      u.wire = s.wireAfter (wrenTrace s.params ++ writeTrace s.params addr vs ++ pollTrace s.params (sts ++ [st]) ++
        readTrace s.params addr vs)

/-- R170, R161, R166, R168: the decision points, each taken in zero time by the next step: after F_POLL an error means a pulse
and the loop of attempts, and no error the verify; a verify that fails means a pulse and the loop, one that passes completion
with RESULT = 1; the loop makes another attempt while fewer than three have started, and else the operation fails, a READ's
with the zero fill. What is then to be run is named in the model's plan (log 1). That every counter of SEQ is 0 at completion is the
model's reading of R213 (log 13). -/
def Obligations.DecisionsFollowTheTable : Prop :=
  ∀ s rest, s.schedule = [] →
    let fin (r : Bool) : State := { s with result := r, lock := false, seq := Seq.idle, busy := false, plan := rest }
    (s.plan = .act .writeDecide :: rest →
      (s.cerr = true → step s = .next { s with plan := [.op .spulse, .act .writeAttempt] ++ rest }) ∧
      (s.cerr = false → step s = .next { s with plan := [.op .verify, .act .verifyDecide] ++ rest })) ∧
    (s.plan = .act .verifyDecide :: rest →
      (s.callOk = true → step s = .next (fin true)) ∧
      (s.callOk = false → step s = .next { s with plan := [.op .spulse, .act .writeAttempt] ++ rest })) ∧
    (s.plan = .act .writeAttempt :: rest →
      (s.seq.att < 3 → step s = .next { s with
        seq.att := s.seq.att + 1
        plan := [.op .linkreset, .act (.lock true), .op .fWren, .op .fWrite, .op .fPoll, .act (.lock false),
          .act .writeDecide] ++ rest }) ∧
      (3 ≤ s.seq.att → step s = .next (fin false))) ∧
    (∀ d, s.plan = .act (.readDecide d) :: rest →
      (s.cerr = true → step s = .next { s with plan := [.op .spulse, .act (.readAttempt d)] ++ rest }) ∧
      (s.cerr = false → step s = .next { s with callOk := true, plan := rest })) ∧
    (∀ d, s.plan = .act (.readAttempt d) :: rest →
      (s.readCount d < 3 → ∃ t, step s = .next t ∧ t.readCount d = s.readCount d + 1 ∧
        (∀ e, e ≠ d → t.readCount e = s.readCount e) ∧
        t = { s with
          seq.att := t.seq.att, seq.vatt := t.seq.vatt
          plan := [.op .linkreset, .act (.lock true), .op (.fRead d), .act (.lock false), .act (.readDecide d)] ++ rest }) ∧
      (3 ≤ s.readCount d → ∃ t, step s = .next t ∧
        (∀ i, (t.buffer d).read i = if i < s.n then some 0x00#8 else (s.buffer d).read i) ∧
        (∀ e, e ≠ d → t.buffer e = s.buffer e) ∧
        t = { s with buf := t.buf, vbuf := t.vbuf, callOk := false, plan := rest })) ∧
    (s.plan = .act .finishPresence :: rest → step s = .next (fin s.pres)) ∧
    (s.plan = .act .finishRead :: rest → step s = .next (fin s.callOk)) ∧
    (s.plan = .act .finishStandby :: rest → step s = .next (fin s.result))

/-- R165: STANDBY is one pulse; RESULT and link state are untouched, LOCK stays 0. That every counter of SEQ is 0 at the end is the
model's reading of R213 (log 13). -/
def Obligations.StandbyIsOnePulse : Prop :=
  ∀ s len addr, Ready s → s.busy = false → Completes (.standby len addr) s fun u =>
    u = { s with
      op := 3#2, len := len, addr := addr, busy := false, lock := false, dir := .output, lvl := true, seq := Seq.idle
      tickPending := false, wire := s.wireAfter (.high :: List.replicate s.params.standbyTicks .idle) }

/-- R160, R169, R79: START latches the command: BUSY <- 1, SEQ.TOP <- the operation of OP, the tick flag cleared, N clamped,
and the operation's plan begun. The plan's form is the model's (log 1). -/
def Obligations.StartBeginsTheOperation : Prop :=
  ∀ s, s.busy = false →
    let b : State := { s with busy := true, tickPending := false }
    (s.op = 0#2 → exec .start s = .next { b with
      seq.top := .presence
      plan := [.op .linkreset, .act (.lock true), .op .fPresence, .act (.lock false), .act .finishPresence] ++ s.plan }) ∧
    (s.op = 1#2 → s.len ≠ 0#8 → exec .start s = .next { b with
      seq.top := .read, n := min s.len.toNat 16
      plan := [.op (.readcore .buf), .act .finishRead] ++ s.plan }) ∧
    (s.op = 2#2 → s.len ≠ 0#8 → exec .start s = .next { b with
      seq.top := .write, seq.att := 0, n := min s.len.toNat 16
      plan := [.act .writeAttempt] ++ s.plan }) ∧
    (s.op = 3#2 → exec .start s = .next { b with
      seq.top := .standby
      plan := [.op .spulse, .act .finishStandby] ++ s.plan })

/-- R173: READ and WRITE with LEN = 0 complete at once with RESULT = 0: no tick is cleared, no slot taken, no line action, no
LinkReset, BUF as it was; so does START with such a command. That every counter of SEQ is 0 then is the model's reading of R213
(log 13). -/
def Obligations.ZeroLengthIsRejected : Prop :=
  ∀ s addr, s.busy = false →
    let z (op : BitVec 2) : State :=
      { s with op := op, len := 0#8, addr := addr, n := 0, result := false, lock := false, seq := Seq.idle }
    exec (.read 0#8 addr) s = .next (z 1#2) ∧ exec (.write 0#8 addr) s = .next (z 2#2) ∧
    exec .start { s with op := 1#2, len := 0#8, addr := addr } = .next (z 1#2) ∧
    exec .start { s with op := 2#2, len := 0#8, addr := addr } = .next (z 2#2)

/-- R174, R78: READ and WRITE begin with N = min(LEN, 16); with a length above 16 the state they begin in is that of length 16
in every element but LEN. -/
def Obligations.LengthAboveSixteenIsSixteen : Prop :=
  ∀ s len addr, s.busy = false →
    (∃ t, exec (.read len addr) s = .next t ∧ t.n = min len.toNat 16 ∧
      (16 < len.toNat → exec (.read 16#8 addr) s = .next { t with len := 16#8 })) ∧
    (∃ t, exec (.write len addr) s = .next t ∧ t.n = min len.toNat 16 ∧
      (16 < len.toNat → exec (.write 16#8 addr) s = .next { t with len := 16#8 }))

/-- R235, R41, R52, R239, U4, U5, U7: while BUSY = 1 START, the host operations whatever their operands, a host access to OP,
ADDR, LEN or BUF, and a reconfiguration of the tick source are refused (log 11). -/
def Obligations.HostIsRefusedWhileBusy : Prop :=
  ∀ s, s.busy = true →
    (∀ len addr, exec .start s = .refused .startWhileBusy ∧ exec (.presence len addr) s = .refused .startWhileBusy ∧
      exec (.read len addr) s = .refused .startWhileBusy ∧ exec (.write len addr) s = .refused .startWhileBusy ∧
      exec (.standby len addr) s = .refused .startWhileBusy) ∧
    (∀ ms, s.schedule = .host .start :: ms → step s = .refused .startWhileBusy) ∧
    ∀ a ms, s.schedule = .host a :: ms →
      (((∃ v, a = .writeOp v) ∨ (∃ v, a = .writeAddr v) ∨ (∃ v, a = .writeLen v) ∨ (∃ i v, a = .writeBuf i v) ∨
        (∃ i, a = .readBuf i)) → step s = .refused .hostAccessWhileBusy) ∧
      ((∃ tBit, a = .configureTick tBit) → step s = .refused .tickSourceWhileBusy)

/-- R41, R18, R219, R232, R239: while BUSY = 0 the host writes OP, ADDR, LEN and any BUF[i], i in 0..15, one byte at a time, with
no side effect; it reads BUF[i], RESULT, BUSY and LOCK; it configures the tick source, to a bit period of 10 µs to 100 µs (U7).
A BUF[i] that nothing has written reads as a free value (U14, log 25); an index above 15 does not exist (R40) and faults. That
the configuration starts the ticks is the model's (log 27). -/
def Obligations.HostAccessWhileIdle : Prop :=
  ∀ s ms, s.busy = false →
    let r : State := { s with schedule := ms }
    (∀ v, s.schedule = .host (.writeOp v) :: ms → step s = .next { r with op := v }) ∧
    (∀ v, s.schedule = .host (.writeAddr v) :: ms → step s = .next { r with addr := v }) ∧
    (∀ v, s.schedule = .host (.writeLen v) :: ms → step s = .next { r with len := v }) ∧
    (∀ i v, i < 16 → s.schedule = .host (.writeBuf i v) :: ms → ∃ t, step s = .next t ∧ t = { r with buf := t.buf } ∧
      ∀ j, t.buf.read j = if j = i then some v else s.buf.read j) ∧
    (∀ i v, i < 16 → s.buf.read i = some v → s.schedule = .host (.readBuf i) :: ms →
      step s = .next { r with hostData := v }) ∧
    (s.schedule = .host .readResult :: ms → step s = .next { r with hostData := if s.result then 1#8 else 0#8 }) ∧
    (s.schedule = .host .readBusy :: ms → step s = .next { r with hostData := 0#8 }) ∧
    (s.schedule = .host .readLock :: ms → step s = .next { r with hostData := if s.lock then 1#8 else 0#8 }) ∧
    (∀ i, i < 16 → s.buf.read i = none → s.schedule = .host (.readBuf i) :: ms →
      ∃ v, step s = .next { r with hostData := v, free := s.free + 1 }) ∧
    (∀ i, 16 ≤ i → (∀ v, s.schedule = .host (.writeBuf i v) :: ms → step s = .fault (.outsideBuffer .buf i)) ∧
      (s.schedule = .host (.readBuf i) :: ms → step s = .fault (.outsideBuffer .buf i))) ∧
    (∀ tBit, s.schedule = .host (.configureTick tBit) :: ms →
      (10000 ≤ tBit → tBit ≤ 100000 → step s = .next { r with tickOn := true, bitPeriod := tBit }) ∧
      (tBit < 10000 ∨ 100000 < tBit → step s = .refused (.bitPeriodOutOfRange tBit)))

/-! ### The step -/

/-- R214, R90 (c), R241: a tick that is delivered sets the one-bit flag, whether or not it was set; a source that has stopped
delivers none, and its stopping changes nothing else (log 27). The block is untouched. -/
def Obligations.TickDeliverySetsTheFlag : Prop :=
  ∀ s ms, (s.schedule = .tick :: ms → s.tickOn = true → step s = .next { s with schedule := ms, tickPending := true }) ∧
    (s.schedule = .tick :: ms → s.tickOn = false → step s = .next { s with schedule := ms }) ∧
    (s.schedule = .tickStop :: ms → step s = .next { s with schedule := ms, tickOn := false })

/-- A table word that decodes to an instruction, placed where the sequencer takes its next position, is run by the next step
exactly as exec runs that instruction (log 21); one that does not decode is refused. -/
def Obligations.FetchedWordIsRun : Prop :=
  ∀ s nbits w,
    (∀ i, decodeTableWord nbits w = some i → step (s.withFetchWord nbits w) = exec i s) ∧
    (decodeTableWord nbits w = none → step (s.withFetchWord nbits w) = .refused (.illegalWord nbits w))

/-- R25, R50, with log 1: a step of the sequencer runs the head of the plan, an operation by exec; with an empty plan it does
nothing (R230: the block waits in IDLE). -/
def Obligations.StepRunsThePlan : Prop :=
  ∀ s, (∀ i rest ms, s.plan = .op i :: rest → s.schedule = .sequencer :: ms →
      step s = exec i { s with plan := rest, schedule := ms }) ∧
    (∀ i rest, s.plan = .op i :: rest → s.schedule = [] → (s.tickPending = true ∨ i ≠ .waittick ∧ ∀ a, i ≠ .slot a) →
      step s = exec i { s with plan := rest }) ∧
    (s.plan = [] → s.schedule = [] → step s = .next s)

/-! ### Encodings -/

/-- Decoding the code word of a well-formed instruction gives it back, with every operand at every value: no bit of an
operand is dropped. The code of the rows without a pattern, and the selector, are the model's (log 19). -/
def Obligations.DecodeOfEncode : Prop := ∀ i : Instr, i.wf = true → decode (encode i) = .ok i

/-- R79, R80 (b): all four operation codes are assigned: each of the 2^26 host command words is an instruction, and is that
instruction's word. -/
def Obligations.HostCommandWordsAreAssigned : Prop :=
  ∀ w, w < 67108864 → ∃ i, decode ⟨.hostop, 26, w, 0⟩ = .ok i ∧ encode i = ⟨.hostop, 26, w, 0⟩

/-- Words written out from spec/30_encoding.md and the table: TXBIT_1 `01`, RXBIT_ONE `10`, MAK `1`, SAK `10`, TXBYTE of 0x12
with MAK, the command byte 0x6C, ADDRESSED with 0x96, F_WREN, and the command word of P2 (READ 0x0123, 2). And R61, R66, R74:
two equal half levels are no transmitted symbol, a slave cell other than (1,0) is no acknowledge, and a byte other than the six
of R74 is none of the fixed bytes. -/
def Obligations.WrittenOutWordsDecode : Prop :=
  decode ⟨.cellTx, 2, 0b01, 0⟩ = .ok .txbitOne ∧ decode ⟨.cellRx, 2, 0b10, 0⟩ = .ok .rxbitOne ∧
  decode ⟨.ackMaster, 1, 0b1, 0⟩ = .ok .mak ∧ decode ⟨.ackSlave, 2, 0b10, 0⟩ = .ok .sak ∧
  decode ⟨.byteframeTx, 10, 0b0001001011, 0⟩ = .ok (.txbyte 0x12#8) ∧
  decode ⟨.byte, 8, 0b01101100, 0⟩ = .ok .cmdWrite ∧
  decode ⟨.framePart, 20, 0b10100000111001011001, 0⟩ = .ok (.addressed 0x96#8 false false) ∧
  decode ⟨.frame, 30, 0b010101011010100000111001011001, 0⟩ = .ok .fWren ∧
  decode ⟨.hostop, 26, 0b01000000100000000100100011, 0⟩ = .ok (.read 0x02#8 0x0123#16) ∧
  (∀ aux w, w = 0 ∨ w = 3 → decode ⟨.cellTx, 2, w, aux⟩ = .error .notATransmitCell) ∧
  (∀ aux w, w < 4 → w ≠ 2 → decode ⟨.ackSlave, 2, w, aux⟩ = .error .missingAcknowledge) ∧
  (∀ aux w, w < 256 → w ≠ 0x55 → w ≠ 0xA0 → w ≠ 0x05 → w ≠ 0x96 → w ≠ 0x03 → w ≠ 0x6C →
    decode ⟨.byte, 8, w, aux⟩ = .error .unknownByte)

/-! ### Invariants and rules of the whole machine -/

/-- R19, R26, R83 and the canonical form of both buffers: every step, of any agent, from any state in range, keeps the counters
in their ranges, N at most 16 and both buffers canonical. -/
def Obligations.StepKeepsTheRanges : Prop := ∀ s t, InRange s → step s = .next t → InRange t

/-- R22, R23, R161, R213: every step, of any agent, keeps ownership: whenever BUSY = 0 the block has nothing to run, LOCK = 0,
SEQ is idle and all counters are 0 (R213 as log 13 reads it); whenever BUSY = 1 its plan ends in the operation's completion. -/
def Obligations.StepKeepsOwnership : Prop := ∀ s t, Owned s → step s = .next t → Owned t

/-- R22, R169: every step keeps the lock rule of what is still to be run (`LockKept`): LOCK is 1 from just after the LinkReset of
an attempt to just after the last slot of its last frame, and 0 in every pulse, at every decision and when nothing is left. So
a frame runs with LOCK = 1 only, and a pulse or a LinkReset with LOCK = 0 only; and the positions that set and clear it do. -/
def Obligations.LockIsHeldExactlyInAttempts : Prop :=
  (∀ s t, Owned s → LockKept s → step s = .next t → LockKept t ∧
    ∀ i, s.running = some (.op i) → (isFrame i = true → s.lock = true) ∧ (betweenAttempts i = true → s.lock = false)) ∧
  (∀ s b rest, s.schedule = [] → s.plan = .act (.lock b) :: rest → step s = .next { s with lock := b, plan := rest }) ∧
  (∀ s t, step s = .next t → t.lock ≠ s.lock →
    s.running = some (.act (.lock t.lock)) ∨
    t.busy = false ∧ t.lock = false ∧
      ((∃ z, s.running = some (.act z) ∧ z.ends = true) ∨ (∃ i, s.running = some (.op i) ∧ issuedByHost i = true) ∨
       s.hostMove = some .start ∨ s.hostMove = some .reset))

/-- R115, R139, R140, R201, R133: except at the decision after an attempt's frames, LERR and CERR change nothing: from two states
that agree but in LERR, CERR, PRES and RESULT, a step leads to two states that agree but in these. PRES differs only where it did
or at its latch in F_PRESENCE, which is taken from CERR, and RESULT only where it did or where PRESENCE completes with PRES. -/
def Obligations.ErrorsNeverChangeTheSlots : Prop :=
  ∀ s t m rest l c p r, s.schedule = [] → s.plan = m :: rest → (∀ z, m = .act z → z.decides = false) → step s = .next t →
    ∃ t', step { s with lerr := l, cerr := c, pres := p, result := r } = .next t' ∧
      t' = { t with lerr := t'.lerr, cerr := t'.cerr, pres := t'.pres, result := t'.result } ∧
      (p = s.pres → m ≠ .act .latchPres → t'.pres = t.pres) ∧
      (r = s.result → m ≠ .act .finishPresence → t'.result = t.result)

/-- R14, R15: LERR and CERR are cleared by LinkReset only, or by a hardware reset (R230). -/
def Obligations.ErrorFlagsAreSticky : Prop :=
  ∀ s t, step s = .next t → (s.lerr = true ∧ t.lerr = false ∨ s.cerr = true ∧ t.cerr = false) →
    s.running = some (.op .linkreset) ∨ s.hostMove = some .reset

/-- R18: OP, ADDR and LEN change only by the host: its writes, its command words, or a reset; the block never writes them. -/
def Obligations.BlockNeverWritesTheCommandRegisters : Prop :=
  ∀ s t, step s = .next t → (t.op ≠ s.op ∨ t.addr ≠ s.addr ∨ t.len ≠ s.len) →
    (∃ i, s.running = some (.op i) ∧ issuedByHost i = true) ∨
    (∃ v, s.hostMove = some (.writeOp v)) ∨ (∃ v, s.hostMove = some (.writeAddr v)) ∨
    (∃ v, s.hostMove = some (.writeLen v)) ∨ s.hostMove = some .reset

/-- R20, R35: BUF changes only by a store of F_READ into BUF, by ReadCore's zero fill of BUF, by the host's write, or by a
reset; a WRITE has none of these in it. -/
def Obligations.OnlyReadsAndTheHostWriteBuf : Prop :=
  ∀ s t, step s = .next t → t.buf ≠ s.buf →
    s.running = some (.act (.readNext .buf)) ∨ s.running = some (.act (.readAttempt .buf)) ∨
    (∃ i v, s.hostMove = some (.writeBuf i v)) ∨ s.hostMove = some .reset

/-- R27: DIR and LVL change only in a slot action (or where the bare actions DRIVE_HIGH, DRIVE_LOW and RELEASE are run by
themselves), or by a reset. -/
def Obligations.LineChangesOnlyInASlot : Prop :=
  ∀ s t, step s = .next t → (t.dir ≠ s.dir ∨ t.lvl ≠ s.lvl) →
    (∃ a, s.running = some (.op (.slot a))) ∨ s.running = some (.op .driveHigh) ∨ s.running = some (.op .driveLow) ∨
    s.running = some (.op .release) ∨ s.hostMove = some .reset

/-- R24, R161: RESULT changes only where PRESENCE, READ or WRITE completes (a zero-length one at its start), or by a reset;
STANDBY's completion leaves it. -/
def Obligations.ResultIsWrittenAtCompletion : Prop :=
  ∀ s t, step s = .next t → t.result ≠ s.result →
    t.busy = false ∧ s.running ≠ some (.act .finishStandby) ∧
    ((∃ z, s.running = some (.act z) ∧ z.ends = true) ∨ (∃ i, s.running = some (.op i) ∧ issuedByHost i = true) ∨
     s.hostMove = some .start ∨ s.hostMove = some .reset)

/-- R29: the configuration constants cannot change. R91: no step takes more than one slot; that a step is one slot or one
zero-time step is the model's choice (log 2). -/
def Obligations.ParametersNeverChange : Prop :=
  ∀ s t, step s = .next t → t.params = s.params ∧ (t.wire = s.wire ∨ ∃ r, t.wire = r :: s.wire)
end

