-- ==== Sys2Proof/Laws/State.lean ====
section
/-! SUPPORT. One lemma per field per named update of the state: what the update leaves, true by definition. -/

namespace Sys2Proof.Machine

open Sys2Proof

section

variable (s : State)

/-! ### push -/

@[simp] theorem State.push_txb (ms : List Micro) : (s.push ms).txb = s.txb := rfl
@[simp] theorem State.push_rxb (ms : List Micro) : (s.push ms).rxb = s.rxb := rfl
@[simp] theorem State.push_makf (ms : List Micro) : (s.push ms).makf = s.makf := rfl
@[simp] theorem State.push_lerr (ms : List Micro) : (s.push ms).lerr = s.lerr := rfl
@[simp] theorem State.push_cerr (ms : List Micro) : (s.push ms).cerr = s.cerr := rfl
@[simp] theorem State.push_bitres (ms : List Micro) : (s.push ms).bitres = s.bitres := rfl
@[simp] theorem State.push_pres (ms : List Micro) : (s.push ms).pres = s.pres := rfl
@[simp] theorem State.push_result (ms : List Micro) : (s.push ms).result = s.result := rfl
@[simp] theorem State.push_op (ms : List Micro) : (s.push ms).op = s.op := rfl
@[simp] theorem State.push_addr (ms : List Micro) : (s.push ms).addr = s.addr := rfl
@[simp] theorem State.push_len (ms : List Micro) : (s.push ms).len = s.len := rfl
@[simp] theorem State.push_n (ms : List Micro) : (s.push ms).n = s.n := rfl
@[simp] theorem State.push_buf (ms : List Micro) : (s.push ms).buf = s.buf := rfl
@[simp] theorem State.push_vbuf (ms : List Micro) : (s.push ms).vbuf = s.vbuf := rfl
@[simp] theorem State.push_busy (ms : List Micro) : (s.push ms).busy = s.busy := rfl
@[simp] theorem State.push_lock (ms : List Micro) : (s.push ms).lock = s.lock := rfl
@[simp] theorem State.push_dir (ms : List Micro) : (s.push ms).dir = s.dir := rfl
@[simp] theorem State.push_lvl (ms : List Micro) : (s.push ms).lvl = s.lvl := rfl
@[simp] theorem State.push_s1 (ms : List Micro) : (s.push ms).s1 = s.s1 := rfl
@[simp] theorem State.push_s2 (ms : List Micro) : (s.push ms).s2 = s.s2 := rfl
@[simp] theorem State.push_seq (ms : List Micro) : (s.push ms).seq = s.seq := rfl
@[simp] theorem State.push_plan (ms : List Micro) : (s.push ms).plan = ms ++ s.plan := rfl
@[simp] theorem State.push_params (ms : List Micro) : (s.push ms).params = s.params := rfl
@[simp] theorem State.push_tickPending (ms : List Micro) : (s.push ms).tickPending = s.tickPending := rfl
@[simp] theorem State.push_tickOn (ms : List Micro) : (s.push ms).tickOn = s.tickOn := rfl
@[simp] theorem State.push_bitPeriod (ms : List Micro) : (s.push ms).bitPeriod = s.bitPeriod := rfl
@[simp] theorem State.push_samples (ms : List Micro) : (s.push ms).samples = s.samples := rfl
@[simp] theorem State.push_schedule (ms : List Micro) : (s.push ms).schedule = s.schedule := rfl
@[simp] theorem State.push_sampleOut (ms : List Micro) : (s.push ms).sampleOut = s.sampleOut := rfl
@[simp] theorem State.push_callOk (ms : List Micro) : (s.push ms).callOk = s.callOk := rfl
@[simp] theorem State.push_hostData (ms : List Micro) : (s.push ms).hostData = s.hostData := rfl
@[simp] theorem State.push_wire (ms : List Micro) : (s.push ms).wire = s.wire := rfl
@[simp] theorem State.push_free (ms : List Micro) : (s.push ms).free = s.free := rfl

/-! ### driveTo -/

@[simp] theorem State.driveTo_txb (l : Level) : (s.driveTo l).txb = s.txb := rfl
@[simp] theorem State.driveTo_rxb (l : Level) : (s.driveTo l).rxb = s.rxb := rfl
@[simp] theorem State.driveTo_makf (l : Level) : (s.driveTo l).makf = s.makf := rfl
@[simp] theorem State.driveTo_lerr (l : Level) : (s.driveTo l).lerr = s.lerr := rfl
@[simp] theorem State.driveTo_cerr (l : Level) : (s.driveTo l).cerr = s.cerr := rfl
@[simp] theorem State.driveTo_bitres (l : Level) : (s.driveTo l).bitres = s.bitres := rfl
@[simp] theorem State.driveTo_pres (l : Level) : (s.driveTo l).pres = s.pres := rfl
@[simp] theorem State.driveTo_result (l : Level) : (s.driveTo l).result = s.result := rfl
@[simp] theorem State.driveTo_op (l : Level) : (s.driveTo l).op = s.op := rfl
@[simp] theorem State.driveTo_addr (l : Level) : (s.driveTo l).addr = s.addr := rfl
@[simp] theorem State.driveTo_len (l : Level) : (s.driveTo l).len = s.len := rfl
@[simp] theorem State.driveTo_n (l : Level) : (s.driveTo l).n = s.n := rfl
@[simp] theorem State.driveTo_buf (l : Level) : (s.driveTo l).buf = s.buf := rfl
@[simp] theorem State.driveTo_vbuf (l : Level) : (s.driveTo l).vbuf = s.vbuf := rfl
@[simp] theorem State.driveTo_busy (l : Level) : (s.driveTo l).busy = s.busy := rfl
@[simp] theorem State.driveTo_lock (l : Level) : (s.driveTo l).lock = s.lock := rfl
@[simp] theorem State.driveTo_dir (l : Level) : (s.driveTo l).dir = .output := rfl
@[simp] theorem State.driveTo_lvl (l : Level) : (s.driveTo l).lvl = l := rfl
@[simp] theorem State.driveTo_s1 (l : Level) : (s.driveTo l).s1 = s.s1 := rfl
@[simp] theorem State.driveTo_s2 (l : Level) : (s.driveTo l).s2 = s.s2 := rfl
@[simp] theorem State.driveTo_seq (l : Level) : (s.driveTo l).seq = s.seq := rfl
@[simp] theorem State.driveTo_plan (l : Level) : (s.driveTo l).plan = s.plan := rfl
@[simp] theorem State.driveTo_params (l : Level) : (s.driveTo l).params = s.params := rfl
@[simp] theorem State.driveTo_tickPending (l : Level) : (s.driveTo l).tickPending = s.tickPending := rfl
@[simp] theorem State.driveTo_tickOn (l : Level) : (s.driveTo l).tickOn = s.tickOn := rfl
@[simp] theorem State.driveTo_bitPeriod (l : Level) : (s.driveTo l).bitPeriod = s.bitPeriod := rfl
@[simp] theorem State.driveTo_samples (l : Level) : (s.driveTo l).samples = s.samples := rfl
@[simp] theorem State.driveTo_schedule (l : Level) : (s.driveTo l).schedule = s.schedule := rfl
@[simp] theorem State.driveTo_sampleOut (l : Level) : (s.driveTo l).sampleOut = s.sampleOut := rfl
@[simp] theorem State.driveTo_callOk (l : Level) : (s.driveTo l).callOk = s.callOk := rfl
@[simp] theorem State.driveTo_hostData (l : Level) : (s.driveTo l).hostData = s.hostData := rfl
@[simp] theorem State.driveTo_wire (l : Level) : (s.driveTo l).wire = s.wire := rfl
@[simp] theorem State.driveTo_free (l : Level) : (s.driveTo l).free = s.free := rfl

/-! ### releaseLine -/

@[simp] theorem State.releaseLine_txb : (s.releaseLine).txb = s.txb := rfl
@[simp] theorem State.releaseLine_rxb : (s.releaseLine).rxb = s.rxb := rfl
@[simp] theorem State.releaseLine_makf : (s.releaseLine).makf = s.makf := rfl
@[simp] theorem State.releaseLine_lerr : (s.releaseLine).lerr = s.lerr := rfl
@[simp] theorem State.releaseLine_cerr : (s.releaseLine).cerr = s.cerr := rfl
@[simp] theorem State.releaseLine_bitres : (s.releaseLine).bitres = s.bitres := rfl
@[simp] theorem State.releaseLine_pres : (s.releaseLine).pres = s.pres := rfl
@[simp] theorem State.releaseLine_result : (s.releaseLine).result = s.result := rfl
@[simp] theorem State.releaseLine_op : (s.releaseLine).op = s.op := rfl
@[simp] theorem State.releaseLine_addr : (s.releaseLine).addr = s.addr := rfl
@[simp] theorem State.releaseLine_len : (s.releaseLine).len = s.len := rfl
@[simp] theorem State.releaseLine_n : (s.releaseLine).n = s.n := rfl
@[simp] theorem State.releaseLine_buf : (s.releaseLine).buf = s.buf := rfl
@[simp] theorem State.releaseLine_vbuf : (s.releaseLine).vbuf = s.vbuf := rfl
@[simp] theorem State.releaseLine_busy : (s.releaseLine).busy = s.busy := rfl
@[simp] theorem State.releaseLine_lock : (s.releaseLine).lock = s.lock := rfl
@[simp] theorem State.releaseLine_dir : (s.releaseLine).dir = .input := rfl
@[simp] theorem State.releaseLine_lvl : (s.releaseLine).lvl = s.lvl := rfl
@[simp] theorem State.releaseLine_s1 : (s.releaseLine).s1 = s.s1 := rfl
@[simp] theorem State.releaseLine_s2 : (s.releaseLine).s2 = s.s2 := rfl
@[simp] theorem State.releaseLine_seq : (s.releaseLine).seq = s.seq := rfl
@[simp] theorem State.releaseLine_plan : (s.releaseLine).plan = s.plan := rfl
@[simp] theorem State.releaseLine_params : (s.releaseLine).params = s.params := rfl
@[simp] theorem State.releaseLine_tickPending : (s.releaseLine).tickPending = s.tickPending := rfl
@[simp] theorem State.releaseLine_tickOn : (s.releaseLine).tickOn = s.tickOn := rfl
@[simp] theorem State.releaseLine_bitPeriod : (s.releaseLine).bitPeriod = s.bitPeriod := rfl
@[simp] theorem State.releaseLine_samples : (s.releaseLine).samples = s.samples := rfl
@[simp] theorem State.releaseLine_schedule : (s.releaseLine).schedule = s.schedule := rfl
@[simp] theorem State.releaseLine_sampleOut : (s.releaseLine).sampleOut = s.sampleOut := rfl
@[simp] theorem State.releaseLine_callOk : (s.releaseLine).callOk = s.callOk := rfl
@[simp] theorem State.releaseLine_hostData : (s.releaseLine).hostData = s.hostData := rfl
@[simp] theorem State.releaseLine_wire : (s.releaseLine).wire = s.wire := rfl
@[simp] theorem State.releaseLine_free : (s.releaseLine).free = s.free := rfl

/-! ### record -/

@[simp] theorem State.record_txb (r : SlotRec) : (s.record r).txb = s.txb := rfl
@[simp] theorem State.record_rxb (r : SlotRec) : (s.record r).rxb = s.rxb := rfl
@[simp] theorem State.record_makf (r : SlotRec) : (s.record r).makf = s.makf := rfl
@[simp] theorem State.record_lerr (r : SlotRec) : (s.record r).lerr = s.lerr := rfl
@[simp] theorem State.record_cerr (r : SlotRec) : (s.record r).cerr = s.cerr := rfl
@[simp] theorem State.record_bitres (r : SlotRec) : (s.record r).bitres = s.bitres := rfl
@[simp] theorem State.record_pres (r : SlotRec) : (s.record r).pres = s.pres := rfl
@[simp] theorem State.record_result (r : SlotRec) : (s.record r).result = s.result := rfl
@[simp] theorem State.record_op (r : SlotRec) : (s.record r).op = s.op := rfl
@[simp] theorem State.record_addr (r : SlotRec) : (s.record r).addr = s.addr := rfl
@[simp] theorem State.record_len (r : SlotRec) : (s.record r).len = s.len := rfl
@[simp] theorem State.record_n (r : SlotRec) : (s.record r).n = s.n := rfl
@[simp] theorem State.record_buf (r : SlotRec) : (s.record r).buf = s.buf := rfl
@[simp] theorem State.record_vbuf (r : SlotRec) : (s.record r).vbuf = s.vbuf := rfl
@[simp] theorem State.record_busy (r : SlotRec) : (s.record r).busy = s.busy := rfl
@[simp] theorem State.record_lock (r : SlotRec) : (s.record r).lock = s.lock := rfl
@[simp] theorem State.record_dir (r : SlotRec) : (s.record r).dir = s.dir := rfl
@[simp] theorem State.record_lvl (r : SlotRec) : (s.record r).lvl = s.lvl := rfl
@[simp] theorem State.record_s1 (r : SlotRec) : (s.record r).s1 = s.s1 := rfl
@[simp] theorem State.record_s2 (r : SlotRec) : (s.record r).s2 = s.s2 := rfl
@[simp] theorem State.record_seq (r : SlotRec) : (s.record r).seq = s.seq := rfl
@[simp] theorem State.record_plan (r : SlotRec) : (s.record r).plan = s.plan := rfl
@[simp] theorem State.record_params (r : SlotRec) : (s.record r).params = s.params := rfl
@[simp] theorem State.record_tickPending (r : SlotRec) : (s.record r).tickPending = s.tickPending := rfl
@[simp] theorem State.record_tickOn (r : SlotRec) : (s.record r).tickOn = s.tickOn := rfl
@[simp] theorem State.record_bitPeriod (r : SlotRec) : (s.record r).bitPeriod = s.bitPeriod := rfl
@[simp] theorem State.record_samples (r : SlotRec) : (s.record r).samples = s.samples := rfl
@[simp] theorem State.record_schedule (r : SlotRec) : (s.record r).schedule = s.schedule := rfl
@[simp] theorem State.record_sampleOut (r : SlotRec) : (s.record r).sampleOut = s.sampleOut := rfl
@[simp] theorem State.record_callOk (r : SlotRec) : (s.record r).callOk = s.callOk := rfl
@[simp] theorem State.record_hostData (r : SlotRec) : (s.record r).hostData = s.hostData := rfl
@[simp] theorem State.record_wire (r : SlotRec) : (s.record r).wire = r :: s.wire := rfl
@[simp] theorem State.record_free (r : SlotRec) : (s.record r).free = s.free := rfl

/-! ### clearTick -/

@[simp] theorem State.clearTick_txb : (s.clearTick).txb = s.txb := rfl
@[simp] theorem State.clearTick_rxb : (s.clearTick).rxb = s.rxb := rfl
@[simp] theorem State.clearTick_makf : (s.clearTick).makf = s.makf := rfl
@[simp] theorem State.clearTick_lerr : (s.clearTick).lerr = s.lerr := rfl
@[simp] theorem State.clearTick_cerr : (s.clearTick).cerr = s.cerr := rfl
@[simp] theorem State.clearTick_bitres : (s.clearTick).bitres = s.bitres := rfl
@[simp] theorem State.clearTick_pres : (s.clearTick).pres = s.pres := rfl
@[simp] theorem State.clearTick_result : (s.clearTick).result = s.result := rfl
@[simp] theorem State.clearTick_op : (s.clearTick).op = s.op := rfl
@[simp] theorem State.clearTick_addr : (s.clearTick).addr = s.addr := rfl
@[simp] theorem State.clearTick_len : (s.clearTick).len = s.len := rfl
@[simp] theorem State.clearTick_n : (s.clearTick).n = s.n := rfl
@[simp] theorem State.clearTick_buf : (s.clearTick).buf = s.buf := rfl
@[simp] theorem State.clearTick_vbuf : (s.clearTick).vbuf = s.vbuf := rfl
@[simp] theorem State.clearTick_busy : (s.clearTick).busy = s.busy := rfl
@[simp] theorem State.clearTick_lock : (s.clearTick).lock = s.lock := rfl
@[simp] theorem State.clearTick_dir : (s.clearTick).dir = s.dir := rfl
@[simp] theorem State.clearTick_lvl : (s.clearTick).lvl = s.lvl := rfl
@[simp] theorem State.clearTick_s1 : (s.clearTick).s1 = s.s1 := rfl
@[simp] theorem State.clearTick_s2 : (s.clearTick).s2 = s.s2 := rfl
@[simp] theorem State.clearTick_seq : (s.clearTick).seq = s.seq := rfl
@[simp] theorem State.clearTick_plan : (s.clearTick).plan = s.plan := rfl
@[simp] theorem State.clearTick_params : (s.clearTick).params = s.params := rfl
@[simp] theorem State.clearTick_tickPending : (s.clearTick).tickPending = false := rfl
@[simp] theorem State.clearTick_tickOn : (s.clearTick).tickOn = s.tickOn := rfl
@[simp] theorem State.clearTick_bitPeriod : (s.clearTick).bitPeriod = s.bitPeriod := rfl
@[simp] theorem State.clearTick_samples : (s.clearTick).samples = s.samples := rfl
@[simp] theorem State.clearTick_schedule : (s.clearTick).schedule = s.schedule := rfl
@[simp] theorem State.clearTick_sampleOut : (s.clearTick).sampleOut = s.sampleOut := rfl
@[simp] theorem State.clearTick_callOk : (s.clearTick).callOk = s.callOk := rfl
@[simp] theorem State.clearTick_hostData : (s.clearTick).hostData = s.hostData := rfl
@[simp] theorem State.clearTick_wire : (s.clearTick).wire = s.wire := rfl
@[simp] theorem State.clearTick_free : (s.clearTick).free = s.free := rfl

/-! ### deliverTick -/

@[simp] theorem State.deliverTick_txb : (s.deliverTick).txb = s.txb := rfl
@[simp] theorem State.deliverTick_rxb : (s.deliverTick).rxb = s.rxb := rfl
@[simp] theorem State.deliverTick_makf : (s.deliverTick).makf = s.makf := rfl
@[simp] theorem State.deliverTick_lerr : (s.deliverTick).lerr = s.lerr := rfl
@[simp] theorem State.deliverTick_cerr : (s.deliverTick).cerr = s.cerr := rfl
@[simp] theorem State.deliverTick_bitres : (s.deliverTick).bitres = s.bitres := rfl
@[simp] theorem State.deliverTick_pres : (s.deliverTick).pres = s.pres := rfl
@[simp] theorem State.deliverTick_result : (s.deliverTick).result = s.result := rfl
@[simp] theorem State.deliverTick_op : (s.deliverTick).op = s.op := rfl
@[simp] theorem State.deliverTick_addr : (s.deliverTick).addr = s.addr := rfl
@[simp] theorem State.deliverTick_len : (s.deliverTick).len = s.len := rfl
@[simp] theorem State.deliverTick_n : (s.deliverTick).n = s.n := rfl
@[simp] theorem State.deliverTick_buf : (s.deliverTick).buf = s.buf := rfl
@[simp] theorem State.deliverTick_vbuf : (s.deliverTick).vbuf = s.vbuf := rfl
@[simp] theorem State.deliverTick_busy : (s.deliverTick).busy = s.busy := rfl
@[simp] theorem State.deliverTick_lock : (s.deliverTick).lock = s.lock := rfl
@[simp] theorem State.deliverTick_dir : (s.deliverTick).dir = s.dir := rfl
@[simp] theorem State.deliverTick_lvl : (s.deliverTick).lvl = s.lvl := rfl
@[simp] theorem State.deliverTick_s1 : (s.deliverTick).s1 = s.s1 := rfl
@[simp] theorem State.deliverTick_s2 : (s.deliverTick).s2 = s.s2 := rfl
@[simp] theorem State.deliverTick_seq : (s.deliverTick).seq = s.seq := rfl
@[simp] theorem State.deliverTick_plan : (s.deliverTick).plan = s.plan := rfl
@[simp] theorem State.deliverTick_params : (s.deliverTick).params = s.params := rfl
@[simp] theorem State.deliverTick_tickPending : (s.deliverTick).tickPending = (s.tickPending || s.tickOn) := rfl
@[simp] theorem State.deliverTick_tickOn : (s.deliverTick).tickOn = s.tickOn := rfl
@[simp] theorem State.deliverTick_bitPeriod : (s.deliverTick).bitPeriod = s.bitPeriod := rfl
@[simp] theorem State.deliverTick_samples : (s.deliverTick).samples = s.samples := rfl
@[simp] theorem State.deliverTick_schedule : (s.deliverTick).schedule = s.schedule := rfl
@[simp] theorem State.deliverTick_sampleOut : (s.deliverTick).sampleOut = s.sampleOut := rfl
@[simp] theorem State.deliverTick_callOk : (s.deliverTick).callOk = s.callOk := rfl
@[simp] theorem State.deliverTick_hostData : (s.deliverTick).hostData = s.hostData := rfl
@[simp] theorem State.deliverTick_wire : (s.deliverTick).wire = s.wire := rfl
@[simp] theorem State.deliverTick_free : (s.deliverTick).free = s.free := rfl

/-! ### raiseComms -/

@[simp] theorem State.raiseComms_txb : (s.raiseComms).txb = s.txb := rfl
@[simp] theorem State.raiseComms_rxb : (s.raiseComms).rxb = s.rxb := rfl
@[simp] theorem State.raiseComms_makf : (s.raiseComms).makf = s.makf := rfl
@[simp] theorem State.raiseComms_lerr : (s.raiseComms).lerr = s.lerr := rfl
@[simp] theorem State.raiseComms_cerr : (s.raiseComms).cerr = true := rfl
@[simp] theorem State.raiseComms_bitres : (s.raiseComms).bitres = s.bitres := rfl
@[simp] theorem State.raiseComms_pres : (s.raiseComms).pres = s.pres := rfl
@[simp] theorem State.raiseComms_result : (s.raiseComms).result = s.result := rfl
@[simp] theorem State.raiseComms_op : (s.raiseComms).op = s.op := rfl
@[simp] theorem State.raiseComms_addr : (s.raiseComms).addr = s.addr := rfl
@[simp] theorem State.raiseComms_len : (s.raiseComms).len = s.len := rfl
@[simp] theorem State.raiseComms_n : (s.raiseComms).n = s.n := rfl
@[simp] theorem State.raiseComms_buf : (s.raiseComms).buf = s.buf := rfl
@[simp] theorem State.raiseComms_vbuf : (s.raiseComms).vbuf = s.vbuf := rfl
@[simp] theorem State.raiseComms_busy : (s.raiseComms).busy = s.busy := rfl
@[simp] theorem State.raiseComms_lock : (s.raiseComms).lock = s.lock := rfl
@[simp] theorem State.raiseComms_dir : (s.raiseComms).dir = s.dir := rfl
@[simp] theorem State.raiseComms_lvl : (s.raiseComms).lvl = s.lvl := rfl
@[simp] theorem State.raiseComms_s1 : (s.raiseComms).s1 = s.s1 := rfl
@[simp] theorem State.raiseComms_s2 : (s.raiseComms).s2 = s.s2 := rfl
@[simp] theorem State.raiseComms_seq : (s.raiseComms).seq = s.seq := rfl
@[simp] theorem State.raiseComms_plan : (s.raiseComms).plan = s.plan := rfl
@[simp] theorem State.raiseComms_params : (s.raiseComms).params = s.params := rfl
@[simp] theorem State.raiseComms_tickPending : (s.raiseComms).tickPending = s.tickPending := rfl
@[simp] theorem State.raiseComms_tickOn : (s.raiseComms).tickOn = s.tickOn := rfl
@[simp] theorem State.raiseComms_bitPeriod : (s.raiseComms).bitPeriod = s.bitPeriod := rfl
@[simp] theorem State.raiseComms_samples : (s.raiseComms).samples = s.samples := rfl
@[simp] theorem State.raiseComms_schedule : (s.raiseComms).schedule = s.schedule := rfl
@[simp] theorem State.raiseComms_sampleOut : (s.raiseComms).sampleOut = s.sampleOut := rfl
@[simp] theorem State.raiseComms_callOk : (s.raiseComms).callOk = s.callOk := rfl
@[simp] theorem State.raiseComms_hostData : (s.raiseComms).hostData = s.hostData := rfl
@[simp] theorem State.raiseComms_wire : (s.raiseComms).wire = s.wire := rfl
@[simp] theorem State.raiseComms_free : (s.raiseComms).free = s.free := rfl

/-! ### raiseDecode -/

@[simp] theorem State.raiseDecode_txb : (s.raiseDecode).txb = s.txb := rfl
@[simp] theorem State.raiseDecode_rxb : (s.raiseDecode).rxb = s.rxb := rfl
@[simp] theorem State.raiseDecode_makf : (s.raiseDecode).makf = s.makf := rfl
@[simp] theorem State.raiseDecode_lerr : (s.raiseDecode).lerr = true := rfl
@[simp] theorem State.raiseDecode_cerr : (s.raiseDecode).cerr = s.cerr := rfl
@[simp] theorem State.raiseDecode_bitres : (s.raiseDecode).bitres = .invalid := rfl
@[simp] theorem State.raiseDecode_pres : (s.raiseDecode).pres = s.pres := rfl
@[simp] theorem State.raiseDecode_result : (s.raiseDecode).result = s.result := rfl
@[simp] theorem State.raiseDecode_op : (s.raiseDecode).op = s.op := rfl
@[simp] theorem State.raiseDecode_addr : (s.raiseDecode).addr = s.addr := rfl
@[simp] theorem State.raiseDecode_len : (s.raiseDecode).len = s.len := rfl
@[simp] theorem State.raiseDecode_n : (s.raiseDecode).n = s.n := rfl
@[simp] theorem State.raiseDecode_buf : (s.raiseDecode).buf = s.buf := rfl
@[simp] theorem State.raiseDecode_vbuf : (s.raiseDecode).vbuf = s.vbuf := rfl
@[simp] theorem State.raiseDecode_busy : (s.raiseDecode).busy = s.busy := rfl
@[simp] theorem State.raiseDecode_lock : (s.raiseDecode).lock = s.lock := rfl
@[simp] theorem State.raiseDecode_dir : (s.raiseDecode).dir = s.dir := rfl
@[simp] theorem State.raiseDecode_lvl : (s.raiseDecode).lvl = s.lvl := rfl
@[simp] theorem State.raiseDecode_s1 : (s.raiseDecode).s1 = s.s1 := rfl
@[simp] theorem State.raiseDecode_s2 : (s.raiseDecode).s2 = s.s2 := rfl
@[simp] theorem State.raiseDecode_seq : (s.raiseDecode).seq = s.seq := rfl
@[simp] theorem State.raiseDecode_plan : (s.raiseDecode).plan = s.plan := rfl
@[simp] theorem State.raiseDecode_params : (s.raiseDecode).params = s.params := rfl
@[simp] theorem State.raiseDecode_tickPending : (s.raiseDecode).tickPending = s.tickPending := rfl
@[simp] theorem State.raiseDecode_tickOn : (s.raiseDecode).tickOn = s.tickOn := rfl
@[simp] theorem State.raiseDecode_bitPeriod : (s.raiseDecode).bitPeriod = s.bitPeriod := rfl
@[simp] theorem State.raiseDecode_samples : (s.raiseDecode).samples = s.samples := rfl
@[simp] theorem State.raiseDecode_schedule : (s.raiseDecode).schedule = s.schedule := rfl
@[simp] theorem State.raiseDecode_sampleOut : (s.raiseDecode).sampleOut = s.sampleOut := rfl
@[simp] theorem State.raiseDecode_callOk : (s.raiseDecode).callOk = s.callOk := rfl
@[simp] theorem State.raiseDecode_hostData : (s.raiseDecode).hostData = s.hostData := rfl
@[simp] theorem State.raiseDecode_wire : (s.raiseDecode).wire = s.wire := rfl
@[simp] theorem State.raiseDecode_free : (s.raiseDecode).free = s.free := rfl

/-! ### linkReset -/

@[simp] theorem State.linkReset_txb : (s.linkReset).txb = 0#8 := rfl
@[simp] theorem State.linkReset_rxb : (s.linkReset).rxb = 0#8 := rfl
@[simp] theorem State.linkReset_makf : (s.linkReset).makf = false := rfl
@[simp] theorem State.linkReset_lerr : (s.linkReset).lerr = false := rfl
@[simp] theorem State.linkReset_cerr : (s.linkReset).cerr = false := rfl
@[simp] theorem State.linkReset_bitres : (s.linkReset).bitres = .invalid := rfl
@[simp] theorem State.linkReset_pres : (s.linkReset).pres = s.pres := rfl
@[simp] theorem State.linkReset_result : (s.linkReset).result = s.result := rfl
@[simp] theorem State.linkReset_op : (s.linkReset).op = s.op := rfl
@[simp] theorem State.linkReset_addr : (s.linkReset).addr = s.addr := rfl
@[simp] theorem State.linkReset_len : (s.linkReset).len = s.len := rfl
@[simp] theorem State.linkReset_n : (s.linkReset).n = s.n := rfl
@[simp] theorem State.linkReset_buf : (s.linkReset).buf = s.buf := rfl
@[simp] theorem State.linkReset_vbuf : (s.linkReset).vbuf = s.vbuf := rfl
@[simp] theorem State.linkReset_busy : (s.linkReset).busy = s.busy := rfl
@[simp] theorem State.linkReset_lock : (s.linkReset).lock = s.lock := rfl
@[simp] theorem State.linkReset_dir : (s.linkReset).dir = s.dir := rfl
@[simp] theorem State.linkReset_lvl : (s.linkReset).lvl = s.lvl := rfl
@[simp] theorem State.linkReset_s1 : (s.linkReset).s1 = s.s1 := rfl
@[simp] theorem State.linkReset_s2 : (s.linkReset).s2 = s.s2 := rfl
@[simp] theorem State.linkReset_seq : (s.linkReset).seq = s.seq := rfl
@[simp] theorem State.linkReset_plan : (s.linkReset).plan = s.plan := rfl
@[simp] theorem State.linkReset_params : (s.linkReset).params = s.params := rfl
@[simp] theorem State.linkReset_tickPending : (s.linkReset).tickPending = s.tickPending := rfl
@[simp] theorem State.linkReset_tickOn : (s.linkReset).tickOn = s.tickOn := rfl
@[simp] theorem State.linkReset_bitPeriod : (s.linkReset).bitPeriod = s.bitPeriod := rfl
@[simp] theorem State.linkReset_samples : (s.linkReset).samples = s.samples := rfl
@[simp] theorem State.linkReset_schedule : (s.linkReset).schedule = s.schedule := rfl
@[simp] theorem State.linkReset_sampleOut : (s.linkReset).sampleOut = s.sampleOut := rfl
@[simp] theorem State.linkReset_callOk : (s.linkReset).callOk = s.callOk := rfl
@[simp] theorem State.linkReset_hostData : (s.linkReset).hostData = s.hostData := rfl
@[simp] theorem State.linkReset_wire : (s.linkReset).wire = s.wire := rfl
@[simp] theorem State.linkReset_free : (s.linkReset).free = s.free := rfl

/-! ### complete -/

@[simp] theorem State.complete_txb (r : Option Bool) : (s.complete r).txb = s.txb := rfl
@[simp] theorem State.complete_rxb (r : Option Bool) : (s.complete r).rxb = s.rxb := rfl
@[simp] theorem State.complete_makf (r : Option Bool) : (s.complete r).makf = s.makf := rfl
@[simp] theorem State.complete_lerr (r : Option Bool) : (s.complete r).lerr = s.lerr := rfl
@[simp] theorem State.complete_cerr (r : Option Bool) : (s.complete r).cerr = s.cerr := rfl
@[simp] theorem State.complete_bitres (r : Option Bool) : (s.complete r).bitres = s.bitres := rfl
@[simp] theorem State.complete_pres (r : Option Bool) : (s.complete r).pres = s.pres := rfl
@[simp] theorem State.complete_result (r : Option Bool) : (s.complete r).result = r.getD s.result := rfl
@[simp] theorem State.complete_op (r : Option Bool) : (s.complete r).op = s.op := rfl
@[simp] theorem State.complete_addr (r : Option Bool) : (s.complete r).addr = s.addr := rfl
@[simp] theorem State.complete_len (r : Option Bool) : (s.complete r).len = s.len := rfl
@[simp] theorem State.complete_n (r : Option Bool) : (s.complete r).n = s.n := rfl
@[simp] theorem State.complete_buf (r : Option Bool) : (s.complete r).buf = s.buf := rfl
@[simp] theorem State.complete_vbuf (r : Option Bool) : (s.complete r).vbuf = s.vbuf := rfl
@[simp] theorem State.complete_busy (r : Option Bool) : (s.complete r).busy = false := rfl
@[simp] theorem State.complete_lock (r : Option Bool) : (s.complete r).lock = false := rfl
@[simp] theorem State.complete_dir (r : Option Bool) : (s.complete r).dir = s.dir := rfl
@[simp] theorem State.complete_lvl (r : Option Bool) : (s.complete r).lvl = s.lvl := rfl
@[simp] theorem State.complete_s1 (r : Option Bool) : (s.complete r).s1 = s.s1 := rfl
@[simp] theorem State.complete_s2 (r : Option Bool) : (s.complete r).s2 = s.s2 := rfl
@[simp] theorem State.complete_seq (r : Option Bool) : (s.complete r).seq = Seq.idle := rfl
@[simp] theorem State.complete_plan (r : Option Bool) : (s.complete r).plan = s.plan := rfl
@[simp] theorem State.complete_params (r : Option Bool) : (s.complete r).params = s.params := rfl
@[simp] theorem State.complete_tickPending (r : Option Bool) : (s.complete r).tickPending = s.tickPending := rfl
@[simp] theorem State.complete_tickOn (r : Option Bool) : (s.complete r).tickOn = s.tickOn := rfl
@[simp] theorem State.complete_bitPeriod (r : Option Bool) : (s.complete r).bitPeriod = s.bitPeriod := rfl
@[simp] theorem State.complete_samples (r : Option Bool) : (s.complete r).samples = s.samples := rfl
@[simp] theorem State.complete_schedule (r : Option Bool) : (s.complete r).schedule = s.schedule := rfl
@[simp] theorem State.complete_sampleOut (r : Option Bool) : (s.complete r).sampleOut = s.sampleOut := rfl
@[simp] theorem State.complete_callOk (r : Option Bool) : (s.complete r).callOk = s.callOk := rfl
@[simp] theorem State.complete_hostData (r : Option Bool) : (s.complete r).hostData = s.hostData := rfl
@[simp] theorem State.complete_wire (r : Option Bool) : (s.complete r).wire = s.wire := rfl
@[simp] theorem State.complete_free (r : Option Bool) : (s.complete r).free = s.free := rfl

/-! ### sendByte -/

@[simp] theorem State.sendByte_txb (v : Byte) (check : Bool) : (s.sendByte v check).txb = v := rfl
@[simp] theorem State.sendByte_rxb (v : Byte) (check : Bool) : (s.sendByte v check).rxb = s.rxb := rfl
@[simp] theorem State.sendByte_makf (v : Byte) (check : Bool) : (s.sendByte v check).makf = s.makf := rfl
@[simp] theorem State.sendByte_lerr (v : Byte) (check : Bool) : (s.sendByte v check).lerr = s.lerr := rfl
@[simp] theorem State.sendByte_cerr (v : Byte) (check : Bool) : (s.sendByte v check).cerr = s.cerr := rfl
@[simp] theorem State.sendByte_bitres (v : Byte) (check : Bool) : (s.sendByte v check).bitres = s.bitres := rfl
@[simp] theorem State.sendByte_pres (v : Byte) (check : Bool) : (s.sendByte v check).pres = s.pres := rfl
@[simp] theorem State.sendByte_result (v : Byte) (check : Bool) : (s.sendByte v check).result = s.result := rfl
@[simp] theorem State.sendByte_op (v : Byte) (check : Bool) : (s.sendByte v check).op = s.op := rfl
@[simp] theorem State.sendByte_addr (v : Byte) (check : Bool) : (s.sendByte v check).addr = s.addr := rfl
@[simp] theorem State.sendByte_len (v : Byte) (check : Bool) : (s.sendByte v check).len = s.len := rfl
@[simp] theorem State.sendByte_n (v : Byte) (check : Bool) : (s.sendByte v check).n = s.n := rfl
@[simp] theorem State.sendByte_buf (v : Byte) (check : Bool) : (s.sendByte v check).buf = s.buf := rfl
@[simp] theorem State.sendByte_vbuf (v : Byte) (check : Bool) : (s.sendByte v check).vbuf = s.vbuf := rfl
@[simp] theorem State.sendByte_busy (v : Byte) (check : Bool) : (s.sendByte v check).busy = s.busy := rfl
@[simp] theorem State.sendByte_lock (v : Byte) (check : Bool) : (s.sendByte v check).lock = s.lock := rfl
@[simp] theorem State.sendByte_dir (v : Byte) (check : Bool) : (s.sendByte v check).dir = s.dir := rfl
@[simp] theorem State.sendByte_lvl (v : Byte) (check : Bool) : (s.sendByte v check).lvl = s.lvl := rfl
@[simp] theorem State.sendByte_s1 (v : Byte) (check : Bool) : (s.sendByte v check).s1 = s.s1 := rfl
@[simp] theorem State.sendByte_s2 (v : Byte) (check : Bool) : (s.sendByte v check).s2 = s.s2 := rfl
@[simp] theorem State.sendByte_seq (v : Byte) (check : Bool) : (s.sendByte v check).seq = s.seq := rfl
@[simp] theorem State.sendByte_plan (v : Byte) (check : Bool) : (s.sendByte v check).plan = txDataCells ++ [.op (.ackx check)] ++ s.plan := rfl
@[simp] theorem State.sendByte_params (v : Byte) (check : Bool) : (s.sendByte v check).params = s.params := rfl
@[simp] theorem State.sendByte_tickPending (v : Byte) (check : Bool) : (s.sendByte v check).tickPending = s.tickPending := rfl
@[simp] theorem State.sendByte_tickOn (v : Byte) (check : Bool) : (s.sendByte v check).tickOn = s.tickOn := rfl
@[simp] theorem State.sendByte_bitPeriod (v : Byte) (check : Bool) : (s.sendByte v check).bitPeriod = s.bitPeriod := rfl
@[simp] theorem State.sendByte_samples (v : Byte) (check : Bool) : (s.sendByte v check).samples = s.samples := rfl
@[simp] theorem State.sendByte_schedule (v : Byte) (check : Bool) : (s.sendByte v check).schedule = s.schedule := rfl
@[simp] theorem State.sendByte_sampleOut (v : Byte) (check : Bool) : (s.sendByte v check).sampleOut = s.sampleOut := rfl
@[simp] theorem State.sendByte_callOk (v : Byte) (check : Bool) : (s.sendByte v check).callOk = s.callOk := rfl
@[simp] theorem State.sendByte_hostData (v : Byte) (check : Bool) : (s.sendByte v check).hostData = s.hostData := rfl
@[simp] theorem State.sendByte_wire (v : Byte) (check : Bool) : (s.sendByte v check).wire = s.wire := rfl
@[simp] theorem State.sendByte_free (v : Byte) (check : Bool) : (s.sendByte v check).free = s.free := rfl

/-! ### presents -/

@[simp] theorem State.presents_txb (x : Level × Level) : (s.presents x).txb = s.txb := rfl
@[simp] theorem State.presents_rxb (x : Level × Level) : (s.presents x).rxb = s.rxb := rfl
@[simp] theorem State.presents_makf (x : Level × Level) : (s.presents x).makf = s.makf := rfl
@[simp] theorem State.presents_lerr (x : Level × Level) : (s.presents x).lerr = s.lerr := rfl
@[simp] theorem State.presents_cerr (x : Level × Level) : (s.presents x).cerr = s.cerr := rfl
@[simp] theorem State.presents_bitres (x : Level × Level) : (s.presents x).bitres = s.bitres := rfl
@[simp] theorem State.presents_pres (x : Level × Level) : (s.presents x).pres = s.pres := rfl
@[simp] theorem State.presents_result (x : Level × Level) : (s.presents x).result = s.result := rfl
@[simp] theorem State.presents_op (x : Level × Level) : (s.presents x).op = s.op := rfl
@[simp] theorem State.presents_addr (x : Level × Level) : (s.presents x).addr = s.addr := rfl
@[simp] theorem State.presents_len (x : Level × Level) : (s.presents x).len = s.len := rfl
@[simp] theorem State.presents_n (x : Level × Level) : (s.presents x).n = s.n := rfl
@[simp] theorem State.presents_buf (x : Level × Level) : (s.presents x).buf = s.buf := rfl
@[simp] theorem State.presents_vbuf (x : Level × Level) : (s.presents x).vbuf = s.vbuf := rfl
@[simp] theorem State.presents_busy (x : Level × Level) : (s.presents x).busy = s.busy := rfl
@[simp] theorem State.presents_lock (x : Level × Level) : (s.presents x).lock = s.lock := rfl
@[simp] theorem State.presents_dir (x : Level × Level) : (s.presents x).dir = s.dir := rfl
@[simp] theorem State.presents_lvl (x : Level × Level) : (s.presents x).lvl = s.lvl := rfl
@[simp] theorem State.presents_s1 (x : Level × Level) : (s.presents x).s1 = s.s1 := rfl
@[simp] theorem State.presents_s2 (x : Level × Level) : (s.presents x).s2 = s.s2 := rfl
@[simp] theorem State.presents_seq (x : Level × Level) : (s.presents x).seq = s.seq := rfl
@[simp] theorem State.presents_plan (x : Level × Level) : (s.presents x).plan = s.plan := rfl
@[simp] theorem State.presents_params (x : Level × Level) : (s.presents x).params = s.params := rfl
@[simp] theorem State.presents_tickPending (x : Level × Level) : (s.presents x).tickPending = s.tickPending := rfl
@[simp] theorem State.presents_tickOn (x : Level × Level) : (s.presents x).tickOn = s.tickOn := rfl
@[simp] theorem State.presents_bitPeriod (x : Level × Level) : (s.presents x).bitPeriod = s.bitPeriod := rfl
@[simp] theorem State.presents_samples (x : Level × Level) : (s.presents x).samples = x.1 :: x.2 :: s.samples := rfl
@[simp] theorem State.presents_schedule (x : Level × Level) : (s.presents x).schedule = s.schedule := rfl
@[simp] theorem State.presents_sampleOut (x : Level × Level) : (s.presents x).sampleOut = s.sampleOut := rfl
@[simp] theorem State.presents_callOk (x : Level × Level) : (s.presents x).callOk = s.callOk := rfl
@[simp] theorem State.presents_hostData (x : Level × Level) : (s.presents x).hostData = s.hostData := rfl
@[simp] theorem State.presents_wire (x : Level × Level) : (s.presents x).wire = s.wire := rfl
@[simp] theorem State.presents_free (x : Level × Level) : (s.presents x).free = s.free := rfl

/-! ### beginCell -/

@[simp] theorem State.beginCell_txb (c : List Micro) : (s.beginCell c).txb = s.txb := rfl
@[simp] theorem State.beginCell_rxb (c : List Micro) : (s.beginCell c).rxb = s.rxb := rfl
@[simp] theorem State.beginCell_makf (c : List Micro) : (s.beginCell c).makf = s.makf := rfl
@[simp] theorem State.beginCell_lerr (c : List Micro) : (s.beginCell c).lerr = s.lerr := rfl
@[simp] theorem State.beginCell_cerr (c : List Micro) : (s.beginCell c).cerr = s.cerr := rfl
@[simp] theorem State.beginCell_bitres (c : List Micro) : (s.beginCell c).bitres = s.bitres := rfl
@[simp] theorem State.beginCell_pres (c : List Micro) : (s.beginCell c).pres = s.pres := rfl
@[simp] theorem State.beginCell_result (c : List Micro) : (s.beginCell c).result = s.result := rfl
@[simp] theorem State.beginCell_op (c : List Micro) : (s.beginCell c).op = s.op := rfl
@[simp] theorem State.beginCell_addr (c : List Micro) : (s.beginCell c).addr = s.addr := rfl
@[simp] theorem State.beginCell_len (c : List Micro) : (s.beginCell c).len = s.len := rfl
@[simp] theorem State.beginCell_n (c : List Micro) : (s.beginCell c).n = s.n := rfl
@[simp] theorem State.beginCell_buf (c : List Micro) : (s.beginCell c).buf = s.buf := rfl
@[simp] theorem State.beginCell_vbuf (c : List Micro) : (s.beginCell c).vbuf = s.vbuf := rfl
@[simp] theorem State.beginCell_busy (c : List Micro) : (s.beginCell c).busy = s.busy := rfl
@[simp] theorem State.beginCell_lock (c : List Micro) : (s.beginCell c).lock = s.lock := rfl
@[simp] theorem State.beginCell_dir (c : List Micro) : (s.beginCell c).dir = s.dir := rfl
@[simp] theorem State.beginCell_lvl (c : List Micro) : (s.beginCell c).lvl = s.lvl := rfl
@[simp] theorem State.beginCell_s1 (c : List Micro) : (s.beginCell c).s1 = s.s1 := rfl
@[simp] theorem State.beginCell_s2 (c : List Micro) : (s.beginCell c).s2 = s.s2 := rfl
@[simp] theorem State.beginCell_seq (c : List Micro) : (s.beginCell c).seq = { s.seq with ph := 0 } := rfl
@[simp] theorem State.beginCell_plan (c : List Micro) : (s.beginCell c).plan = c ++ s.plan := rfl
@[simp] theorem State.beginCell_params (c : List Micro) : (s.beginCell c).params = s.params := rfl
@[simp] theorem State.beginCell_tickPending (c : List Micro) : (s.beginCell c).tickPending = s.tickPending := rfl
@[simp] theorem State.beginCell_tickOn (c : List Micro) : (s.beginCell c).tickOn = s.tickOn := rfl
@[simp] theorem State.beginCell_bitPeriod (c : List Micro) : (s.beginCell c).bitPeriod = s.bitPeriod := rfl
@[simp] theorem State.beginCell_samples (c : List Micro) : (s.beginCell c).samples = s.samples := rfl
@[simp] theorem State.beginCell_schedule (c : List Micro) : (s.beginCell c).schedule = s.schedule := rfl
@[simp] theorem State.beginCell_sampleOut (c : List Micro) : (s.beginCell c).sampleOut = s.sampleOut := rfl
@[simp] theorem State.beginCell_callOk (c : List Micro) : (s.beginCell c).callOk = s.callOk := rfl
@[simp] theorem State.beginCell_hostData (c : List Micro) : (s.beginCell c).hostData = s.hostData := rfl
@[simp] theorem State.beginCell_wire (c : List Micro) : (s.beginCell c).wire = s.wire := rfl
@[simp] theorem State.beginCell_free (c : List Micro) : (s.beginCell c).free = s.free := rfl

/-! ### beginFrame -/

@[simp] theorem State.beginFrame_txb (f : FrameKind) (ms : List Micro) : (s.beginFrame f ms).txb = s.txb := rfl
@[simp] theorem State.beginFrame_rxb (f : FrameKind) (ms : List Micro) : (s.beginFrame f ms).rxb = s.rxb := rfl
@[simp] theorem State.beginFrame_makf (f : FrameKind) (ms : List Micro) : (s.beginFrame f ms).makf = s.makf := rfl
@[simp] theorem State.beginFrame_lerr (f : FrameKind) (ms : List Micro) : (s.beginFrame f ms).lerr = s.lerr := rfl
@[simp] theorem State.beginFrame_cerr (f : FrameKind) (ms : List Micro) : (s.beginFrame f ms).cerr = s.cerr := rfl
@[simp] theorem State.beginFrame_bitres (f : FrameKind) (ms : List Micro) : (s.beginFrame f ms).bitres = s.bitres := rfl
@[simp] theorem State.beginFrame_pres (f : FrameKind) (ms : List Micro) : (s.beginFrame f ms).pres = s.pres := rfl
@[simp] theorem State.beginFrame_result (f : FrameKind) (ms : List Micro) : (s.beginFrame f ms).result = s.result := rfl
@[simp] theorem State.beginFrame_op (f : FrameKind) (ms : List Micro) : (s.beginFrame f ms).op = s.op := rfl
@[simp] theorem State.beginFrame_addr (f : FrameKind) (ms : List Micro) : (s.beginFrame f ms).addr = s.addr := rfl
@[simp] theorem State.beginFrame_len (f : FrameKind) (ms : List Micro) : (s.beginFrame f ms).len = s.len := rfl
@[simp] theorem State.beginFrame_n (f : FrameKind) (ms : List Micro) : (s.beginFrame f ms).n = s.n := rfl
@[simp] theorem State.beginFrame_buf (f : FrameKind) (ms : List Micro) : (s.beginFrame f ms).buf = s.buf := rfl
@[simp] theorem State.beginFrame_vbuf (f : FrameKind) (ms : List Micro) : (s.beginFrame f ms).vbuf = s.vbuf := rfl
@[simp] theorem State.beginFrame_busy (f : FrameKind) (ms : List Micro) : (s.beginFrame f ms).busy = s.busy := rfl
@[simp] theorem State.beginFrame_lock (f : FrameKind) (ms : List Micro) : (s.beginFrame f ms).lock = s.lock := rfl
@[simp] theorem State.beginFrame_dir (f : FrameKind) (ms : List Micro) : (s.beginFrame f ms).dir = s.dir := rfl
@[simp] theorem State.beginFrame_lvl (f : FrameKind) (ms : List Micro) : (s.beginFrame f ms).lvl = s.lvl := rfl
@[simp] theorem State.beginFrame_s1 (f : FrameKind) (ms : List Micro) : (s.beginFrame f ms).s1 = s.s1 := rfl
@[simp] theorem State.beginFrame_s2 (f : FrameKind) (ms : List Micro) : (s.beginFrame f ms).s2 = s.s2 := rfl
@[simp] theorem State.beginFrame_seq (f : FrameKind) (ms : List Micro) : (s.beginFrame f ms).seq = { s.seq with frame := f } := rfl
@[simp] theorem State.beginFrame_plan (f : FrameKind) (ms : List Micro) : (s.beginFrame f ms).plan = ms ++ s.plan := rfl
@[simp] theorem State.beginFrame_params (f : FrameKind) (ms : List Micro) : (s.beginFrame f ms).params = s.params := rfl
@[simp] theorem State.beginFrame_tickPending (f : FrameKind) (ms : List Micro) : (s.beginFrame f ms).tickPending = s.tickPending := rfl
@[simp] theorem State.beginFrame_tickOn (f : FrameKind) (ms : List Micro) : (s.beginFrame f ms).tickOn = s.tickOn := rfl
@[simp] theorem State.beginFrame_bitPeriod (f : FrameKind) (ms : List Micro) : (s.beginFrame f ms).bitPeriod = s.bitPeriod := rfl
@[simp] theorem State.beginFrame_samples (f : FrameKind) (ms : List Micro) : (s.beginFrame f ms).samples = s.samples := rfl
@[simp] theorem State.beginFrame_schedule (f : FrameKind) (ms : List Micro) : (s.beginFrame f ms).schedule = s.schedule := rfl
@[simp] theorem State.beginFrame_sampleOut (f : FrameKind) (ms : List Micro) : (s.beginFrame f ms).sampleOut = s.sampleOut := rfl
@[simp] theorem State.beginFrame_callOk (f : FrameKind) (ms : List Micro) : (s.beginFrame f ms).callOk = s.callOk := rfl
@[simp] theorem State.beginFrame_hostData (f : FrameKind) (ms : List Micro) : (s.beginFrame f ms).hostData = s.hostData := rfl
@[simp] theorem State.beginFrame_wire (f : FrameKind) (ms : List Micro) : (s.beginFrame f ms).wire = s.wire := rfl
@[simp] theorem State.beginFrame_free (f : FrameKind) (ms : List Micro) : (s.beginFrame f ms).free = s.free := rfl

/-! ### answered -/

@[simp] theorem State.answered_txb : s.answered.txb = s.txb := by unfold State.answered; split <;> rfl
@[simp] theorem State.answered_rxb : s.answered.rxb = s.rxb := by unfold State.answered; split <;> rfl
@[simp] theorem State.answered_makf : s.answered.makf = s.makf := by unfold State.answered; split <;> rfl
@[simp] theorem State.answered_lerr : s.answered.lerr = s.lerr := by unfold State.answered; split <;> rfl
@[simp] theorem State.answered_cerr : s.answered.cerr = s.cerr := by unfold State.answered; split <;> rfl
@[simp] theorem State.answered_bitres : s.answered.bitres = s.bitres := by unfold State.answered; split <;> rfl
@[simp] theorem State.answered_pres : s.answered.pres = s.pres := by unfold State.answered; split <;> rfl
@[simp] theorem State.answered_result : s.answered.result = s.result := by unfold State.answered; split <;> rfl
@[simp] theorem State.answered_op : s.answered.op = s.op := by unfold State.answered; split <;> rfl
@[simp] theorem State.answered_addr : s.answered.addr = s.addr := by unfold State.answered; split <;> rfl
@[simp] theorem State.answered_len : s.answered.len = s.len := by unfold State.answered; split <;> rfl
@[simp] theorem State.answered_n : s.answered.n = s.n := by unfold State.answered; split <;> rfl
@[simp] theorem State.answered_buf : s.answered.buf = s.buf := by unfold State.answered; split <;> rfl
@[simp] theorem State.answered_vbuf : s.answered.vbuf = s.vbuf := by unfold State.answered; split <;> rfl
@[simp] theorem State.answered_busy : s.answered.busy = s.busy := by unfold State.answered; split <;> rfl
@[simp] theorem State.answered_lock : s.answered.lock = s.lock := by unfold State.answered; split <;> rfl
@[simp] theorem State.answered_dir : s.answered.dir = s.dir := by unfold State.answered; split <;> rfl
@[simp] theorem State.answered_lvl : s.answered.lvl = s.lvl := by unfold State.answered; split <;> rfl
@[simp] theorem State.answered_s1 : s.answered.s1 = s.s1 := by unfold State.answered; split <;> rfl
@[simp] theorem State.answered_s2 : s.answered.s2 = s.s2 := by unfold State.answered; split <;> rfl
@[simp] theorem State.answered_seq : s.answered.seq = s.seq := by unfold State.answered; split <;> rfl
@[simp] theorem State.answered_plan : s.answered.plan = s.plan := by unfold State.answered; split <;> rfl
@[simp] theorem State.answered_params : s.answered.params = s.params := by unfold State.answered; split <;> rfl
@[simp] theorem State.answered_tickPending : s.answered.tickPending = s.tickPending := by unfold State.answered; split <;> rfl
@[simp] theorem State.answered_tickOn : s.answered.tickOn = s.tickOn := by unfold State.answered; split <;> rfl
@[simp] theorem State.answered_bitPeriod : s.answered.bitPeriod = s.bitPeriod := by unfold State.answered; split <;> rfl
@[simp] theorem State.answered_schedule : s.answered.schedule = s.schedule := by unfold State.answered; split <;> rfl
@[simp] theorem State.answered_sampleOut : s.answered.sampleOut = s.sampleOut := by unfold State.answered; split <;> rfl
@[simp] theorem State.answered_callOk : s.answered.callOk = s.callOk := by unfold State.answered; split <;> rfl
@[simp] theorem State.answered_hostData : s.answered.hostData = s.hostData := by unfold State.answered; split <;> rfl
@[simp] theorem State.answered_wire : s.answered.wire = s.wire := by unfold State.answered; split <;> rfl

end

end Sys2Proof.Machine
end

