-- ==== Sys2Proof/Laws/Ops.lean ====
section
/-! SUPPORT. What each shared operation can do, said once: the sample, the slot, the store to a buffer, the start of a host
operation and the step. -/

namespace Sys2Proof.Machine

open Sys2Proof

/-- A sample answers only while the line is released, and then takes the environment's next answer. -/
theorem State.takeSample_eq_next_iff (s t : State) :
    s.takeSample = .next t ↔ s.dir = .input ∧ t = { s.answered with sampleOut := s.lineLevel } := by
  unfold State.takeSample
  cases s.dir <;> simp [eq_comm]

/-- While the line is driven a sample is refused, and only so. -/
theorem State.takeSample_driving (s : State) (h : s.dir = .output) : s.takeSample = .refused .sampleWhileDriving := by
  simp [State.takeSample, h]

/-- With a tick pending a slot consumes it and acts. -/
theorem execSlot_pending (a : SlotAct) (s : State) (h : s.tickPending = true) :
    execSlot a s = slotAction a s.clearTick := by simp [execSlot, h]

/-- With none pending a slot waits where it is. -/
theorem execSlot_waits (a : SlotAct) (s : State) (h : s.tickPending = false) :
    execSlot a s = .next (s.push [.op (.slot a)]) := by simp [execSlot, h]

/-- A store answers for an existing index only, and replaces one byte of one buffer. -/
theorem State.store_eq_next_iff (s t : State) (d : Dest) (i : Nat) (v : Byte) :
    s.store d i v = .next t ↔ i < Config.PAGE_SIZE ∧ t = s.setBuffer d ((s.buffer d).write i v) := by
  unfold State.store
  split <;> simp_all [eq_comm]

/-- The buffer just replaced, and the other one. -/
theorem State.buffer_setBuffer (s : State) (d e : Dest) (m : Memory) :
    (s.setBuffer d m).buffer e = if e = d then m else s.buffer e := by
  cases d <;> cases e <;> rfl

/-- START answers exactly when the block is not busy. -/
theorem State.tryStart_eq_next_iff (s t : State) : s.tryStart = .next t ↔ s.busy = false ∧ t = s.hostStart := by
  unfold State.tryStart
  cases s.busy <;> simp [eq_comm]

/-- The tick source is configured exactly when the block is not busy and the bit period is one R5 allows. -/
theorem State.configureTick_eq_next_iff (s t : State) (tBit : Nat) :
    s.configureTick tBit = .next t ↔
      s.busy = false ∧ 10000 ≤ tBit ∧ tBit ≤ 100000 ∧ t = { s with tickOn := true, bitPeriod := tBit } := by
  unfold State.configureTick Config.bitPeriodLegal Config.T_BIT_MIN Config.T_BIT_MAX
  cases s.busy <;> by_cases h : 10000 ≤ tBit <;> by_cases k : tBit ≤ 100000 <;> simp [h, k, eq_comm]

/-- With nothing scheduled and the sequencer not waiting, a step runs the head of the plan. -/
theorem step_runs {s : State} {m : Micro} {rest : List Micro} (hs : s.schedule = []) (hp : s.plan = m :: rest)
    (hw : waiting s = false) : step s = runMicro m { s with plan := rest } := by
  simp [step, hs, defaultMove, hw, seqStep, hp]

/-- With nothing scheduled and the sequencer waiting, a step is the tick source's delivery. -/
theorem step_ticks {s : State} (hs : s.schedule = []) (ho : s.tickOn = true) (hw : waiting s = true) :
    step s = .next s.deliverTick := by
  simp [step, hs, defaultMove, hw, ho]

/-- Everything a step can do: the host acts; or the schedule, the tick flag and the tick source are all that moves (a tick,
the end of the ticks, an idle or a waiting sequencer); or the head of the plan is run. -/
theorem step_cases {s t : State} (h : step s = .next t) :
    (∃ a ms, s.schedule = .host a :: ms ∧ hostAct a { s with schedule := ms } = .next t) ∨
    (∃ ms p o, t = { s with schedule := ms, tickPending := p, tickOn := o }) ∨
    (∃ m rest ms, s.plan = m :: rest ∧ (s.schedule = [] ∧ ms = [] ∧ waiting s = false ∨ s.schedule = .sequencer :: ms) ∧
      runMicro m { s with plan := rest, schedule := ms } = .next t) := by
  unfold step at h
  split at h
  next hs =>
    unfold defaultMove at h
    split at h
    next =>
      split at h <;> cases h
      · exact .inr (.inl ⟨s.schedule, _, s.tickOn, rfl⟩)
      · exact .inr (.inl ⟨s.schedule, s.tickPending, s.tickOn, rfl⟩)
    next hw =>
      unfold seqStep at h
      split at h
      · cases h; exact .inr (.inl ⟨s.schedule, s.tickPending, s.tickOn, rfl⟩)
      next m rest hp =>
        refine .inr (.inr ⟨m, rest, [], hp, .inl ⟨hs, rfl, Bool.eq_false_iff.mpr hw⟩, ?_⟩)
        rw [← hs]; exact h
  next m ms hs =>
    cases m with
    | host a => exact .inl ⟨a, ms, hs, h⟩
    | tick => cases h; exact .inr (.inl ⟨ms, _, s.tickOn, rfl⟩)
    | tickStop => cases h; exact .inr (.inl ⟨ms, s.tickPending, false, rfl⟩)
    | sequencer =>
      simp only [agentMove, seqStep] at h
      split at h
      · cases h; exact .inr (.inl ⟨ms, s.tickPending, s.tickOn, rfl⟩)
      next m rest hp => exact .inr (.inr ⟨m, rest, ms, hp, .inr hs, h⟩)

/-- Completion leaves the block idle, its result replaced only where the operation has one. -/
theorem State.complete_idle (s : State) (r : Option Bool) :
    (s.complete r).busy = false ∧ (s.complete r).lock = false ∧ (s.complete r).seq = Seq.idle ∧
      (s.complete r).result = r.getD s.result ∧ (s.complete r).plan = s.plan := ⟨rfl, rfl, rfl, rfl, rfl⟩

/-- R173: the clamped length is 0 only for a length of 0. -/
theorem clampLen_eq_zero (len : Byte) : clampLen len = 0 ↔ len = 0#8 := by
  simp only [clampLen, Config.PAGE_SIZE]
  constructor
  · intro h; apply BitVec.eq_of_toNat_eq; simp; omega
  · intro h; simp [h]

/-- Every operation but READ and WRITE of length 0 leaves START with BUSY = 1; those two complete at once. -/
theorem State.hostStart_busy (s : State) :
    s.hostStart.busy = !((s.op == opRead || s.op == opWrite) && s.len == 0#8) := by
  unfold State.hostStart beginPresence beginRead beginWrite beginStandby
  simp only [clampLen_eq_zero]
  by_cases h0 : s.op = opPresence
  · simp [h0, opPresence, opRead, opWrite]
  · by_cases h1 : s.op = opRead <;> by_cases h2 : s.op = opWrite <;> by_cases hl : s.len = 0#8 <;>
      simp_all [State.complete, opRead, opPresence, opWrite]

end Sys2Proof.Machine
end

