-- ==== Sys2Proof/Laws/Run.lean ====
section
/-! SUPPORT. Runs: how they compose, and what one slot and one zero-time step contribute to one. -/

namespace Sys2Proof.Machine

open Sys2Proof

/-- Running `m` steps and then `n` is running `m + n`. -/
theorem run_add {m n : Nat} {s t : State} (h : run m s = .next t) : run (m + n) s = run n t := by
  induction m generalizing s with
  | zero => simp only [run, Host.Outcome.next.injEq] at h; simp [h]
  | succ m ih =>
    rw [Nat.succ_add]
    simp only [run] at h ⊢
    cases hs : step s <;> simp only [hs] at h ⊢ <;> first | exact ih h | cases h

/-- A state reaches itself. -/
theorem Reaches.refl (s : State) : Reaches s s := ⟨0, rfl⟩

/-- Reaching is transitive. -/
theorem Reaches.trans {s t u : State} (h : Reaches s t) (k : Reaches t u) : Reaches s u := by
  obtain ⟨m, hm⟩ := h
  obtain ⟨n, hn⟩ := k
  exact ⟨m + n, by rw [run_add hm, hn]⟩

/-- One step. -/
theorem Reaches.step {s t u : State} (h : step s = .next t) (k : Reaches t u) : Reaches s u := by
  obtain ⟨n, hn⟩ := k
  exact ⟨n + 1, by simp [run, h, hn]⟩

/-- A zero-time step at the head of the plan is run. -/
theorem reaches_act {s t u : State} {z : ZeroStep} {rest : List Micro} (hs : s.schedule = [])
    (hp : s.plan = .act z :: rest) (hz : runZero z { s with plan := rest } = .next t) (k : Reaches t u) :
    Reaches s u :=
  .step (by rw [step_runs hs hp (by simp [waiting, hp])]; exact hz) k

/-- An operation at the head of the plan that is no wait is run. -/
theorem reaches_op {s t u : State} {i : Instr} {rest : List Micro} (hs : s.schedule = [])
    (hp : s.plan = .op i :: rest) (hw : waiting s = false) (hi : exec i { s with plan := rest } = .next t)
    (k : Reaches t u) : Reaches s u :=
  .step (by rw [step_runs hs hp hw]; exact hi) k

/-- A slot at the head of the plan is taken, whether or not its tick has already been delivered. -/
theorem reaches_slot {s t u : State} {a : SlotAct} {rest : List Micro} (hr : Ready s)
    (hp : s.plan = .op (.slot a) :: rest)
    (ht : slotAction a { s with plan := rest, tickPending := false } = .next t) (k : Reaches t u) :
    Reaches s u := by
  obtain ⟨hs, ho⟩ := hr
  cases hk : s.tickPending with
  | true =>
    exact reaches_op hs hp (by simp [waiting, hp, hk])
      ((execSlot_pending a { s with plan := rest } hk).trans ht) k
  | false =>
    refine .step (step_ticks hs ho (by simp [waiting, hp, hk])) ?_
    exact reaches_op (s := s.deliverTick) hs hp (by simp [waiting, hp, ho])
      ((execSlot_pending a { s.deliverTick with plan := rest } (by simp [ho])).trans ht) k

end Sys2Proof.Machine
end

