-- ==== Sys2Proof/Laws/Cells.lean ====
section
/-! SUPPORT. What the shared pieces of a plan do when they are run, each said once: the transmitted, the received and the
unsampled bit cell, and the interval that holds the line. -/

namespace Sys2Proof.Machine

open Sys2Proof

/-- The judgement of a pair, in the terms of the statements. -/
theorem judgePair_eq_outcomeOf (p : Config.Params) (x : Level × Level) : judgePair p x.1 x.2 = outcomeOf p x := by
  unfold judgePair outcomeOf readsOne readsInvalid zeroPair
  by_cases h1 : x = p.rxOnePair <;> by_cases h2 : x = (!p.rxOnePair.1, !p.rxOnePair.2) <;> simp_all

/-- The judgement is INVALID exactly for a pair that decodes to neither bit. -/
theorem outcomeOf_invalid (p : Config.Params) (x : Level × Level) :
    (outcomeOf p x == .invalid) = readsInvalid p x := by
  unfold outcomeOf readsOne readsInvalid
  by_cases h1 : x = p.rxOnePair <;> by_cases h2 : x = (!p.rxOnePair.1, !p.rxOnePair.2) <;> simp_all

/-- The judgement is ONE exactly for RX_ONE_PAIR. -/
theorem outcomeOf_one (p : Config.Params) (x : Level × Level) : acknowledged (outcomeOf p x) = readsOne p x := by
  unfold acknowledged outcomeOf
  cases readsOne p x <;> cases readsInvalid p x <;> rfl

/-- A transmitted cell at the head of the plan. -/
theorem reaches_txCell {s : State} {b : Bit} {rest : List Micro} (hr : Ready s) (hp : s.plan = txCell b ++ rest) :
    Reaches s { s with tickPending := false, dir := .output, lvl := b, seq.ph := 0,
                       wire := s.wireAfter (txTrace b), plan := rest } := by
  cases s
  cases b <;>
  · refine reaches_slot hr hp rfl ?_
    refine reaches_act hr.1 rfl rfl ?_
    refine reaches_slot hr rfl rfl ?_
    refine reaches_act hr.1 rfl rfl ?_
    refine reaches_slot hr rfl rfl ?_
    refine reaches_act hr.1 rfl rfl ?_
    refine reaches_slot hr rfl rfl ?_
    refine reaches_act hr.1 rfl rfl ?_
    exact Reaches.refl _

/-- An unsampled cell at the head of the plan. -/
theorem reaches_unsampledCell {s : State} {rest : List Micro} (hr : Ready s) (hp : s.plan = unsampledCell ++ rest) :
    Reaches s { s with tickPending := false, dir := .input, seq.ph := 0, wire := s.wireAfter offTrace, plan := rest } := by
  cases s
  refine reaches_slot hr hp rfl ?_
  refine reaches_act hr.1 rfl rfl ?_
  refine reaches_slot hr rfl rfl ?_
  refine reaches_act hr.1 rfl rfl ?_
  refine reaches_slot hr rfl rfl ?_
  refine reaches_act hr.1 rfl rfl ?_
  refine reaches_slot hr rfl rfl ?_
  refine reaches_act hr.1 rfl rfl ?_
  exact Reaches.refl _

/-- A received cell at the head of the plan, with its judgement as the rule R97 computes it. -/
theorem reaches_rxCell {s : State} {rest : List Micro} (hr : Ready s) (hp : s.plan = rxCell ++ rest) :
    Reaches s
      { s with tickPending := false, dir := .input, s1 := s.nextPair.1, s2 := s.nextPair.2, sampleOut := s.nextPair.2,
               bitres := judgePair s.params s.nextPair.1 s.nextPair.2,
               lerr := lerrAfter s.lerr (judgePair s.params s.nextPair.1 s.nextPair.2),
               samples := (s.afterPairs 1).samples, free := (s.afterPairs 1).free,
               seq.ph := 0, wire := s.wireAfter (rxTrace s.nextPair), plan := rest } := by
  obtain ⟨txb, rxb, makf, lerr, cerr, bitres, pres, result, op, addr, len, n, buf, vbuf, busy, lock, dir, lvl, s1, s2,
    seq, plan, params, tp, tOn, bp, samples, sched, so, co, hd, wire, free⟩ := s
  rcases samples with _ | ⟨x, _ | ⟨y, l⟩⟩ <;>
  · refine reaches_slot hr hp rfl ?_
    refine reaches_act hr.1 rfl rfl ?_
    refine reaches_slot hr rfl rfl ?_
    refine reaches_act hr.1 rfl rfl ?_
    refine reaches_act hr.1 rfl rfl ?_
    refine reaches_slot hr rfl rfl ?_
    refine reaches_act hr.1 rfl rfl ?_
    refine reaches_slot hr rfl rfl ?_
    refine reaches_act hr.1 rfl rfl ?_
    refine reaches_act hr.1 rfl rfl ?_
    refine reaches_act hr.1 rfl rfl ?_
    exact Reaches.refl _

/-- An interval at the head of the plan: WAIT more slots with no action. -/
theorem reaches_hold {s : State} {rest : List Micro} (hr : Ready s) (hp : s.plan = .act .hold :: rest)
    (ht : s.tickPending = false) :
    Reaches s { s with seq.wait := 0, wire := List.replicate s.seq.wait .idle ++ s.wire, plan := rest } := by
  induction hw : s.seq.wait generalizing s with
  | zero =>
    refine reaches_act hr.1 hp (t := { s with plan := rest }) (by simp [runZero, zeroHold, hw]) ?_
    have : s.seq = { s.seq with wait := 0 } := by rw [← hw]
    rw [← this]
    exact Reaches.refl _
  | succ w ih =>
    refine reaches_act hr.1 hp
      (t := { s with plan := [.op (.slot .idle), .act .waitDown, .act .hold] ++ rest }) (by
        simp [runZero, zeroHold, hw, State.push]) ?_
    refine reaches_slot (s := { s with plan := [.op (.slot .idle), .act .waitDown, .act .hold] ++ rest }) hr rfl rfl ?_
    refine reaches_act hr.1 rfl rfl ?_
    have := ih (s := { s with seq.wait := w, wire := .idle :: s.wire, plan := .act .hold :: rest }) hr rfl ht rfl
    simpa [zeroWaitDown, State.record, hw, ht, List.replicate_succ', List.append_assoc] using this

end Sys2Proof.Machine
end

