-- ==== Sys2Proof/Laws/Lock.lean ====
section
/-! SUPPORT. The lock rule of a plan: what each kind of position contributes to it, and that the plan of an attempt keeps it. -/

namespace Sys2Proof.Machine

open Sys2Proof

@[simp] theorem lockedPlan_nil (lock : Bool) : lockedPlan lock [] = !lock := rfl

@[simp] theorem lockedPlan_lock (lock b : Bool) (ms : List Micro) :
    lockedPlan lock (.act (.lock b) :: ms) = ((b != lock) && lockedPlan b ms) := by
  cases lock <;> rfl

@[simp] theorem lockedPlan_op (lock : Bool) (i : Instr) (ms : List Micro) :
    lockedPlan lock (.op i :: ms) = ((Micro.op i).fitsLock lock && lockedPlan lock ms) := by
  cases lock <;> rfl

/-- A zero-time step other than LOCK's own. -/
theorem lockedPlan_act (lock : Bool) {z : ZeroStep} (ms : List Micro) (h : ∀ b, z ≠ .lock b) :
    lockedPlan lock (.act z :: ms) = ((Micro.act z).fitsLock lock && lockedPlan lock ms) := by
  cases lock <;> cases z <;> first | rfl | exact absurd rfl (h _)

/-- Positions that fit LOCK and do not write it leave the rule to what follows. -/
theorem lockedPlan_append (lock : Bool) {ms : List Micro} (ns : List Micro)
    (h : ∀ m, m ∈ ms → m.fitsLock lock = true ∧ ∀ b, m ≠ .act (.lock b)) :
    lockedPlan lock (ms ++ ns) = lockedPlan lock ns := by
  induction ms with
  | nil => rfl
  | cons m ms ih =>
    have hm := h m (by simp)
    have ht := ih fun x hx => h x (by simp [hx])
    cases m with
    | op i => simp [hm.1, ht]
    | act z => rw [List.cons_append, lockedPlan_act _ _ fun b e => hm.2 b (by rw [e]), hm.1, ht]; rfl
    | word k w => cases lock <;> simp [Micro.fitsLock] at hm

/-- R169: the plan of an attempt keeps the rule: LOCK is 0 before its LinkReset and after its last frame. -/
theorem lockedPlan_attempt {frames : List Micro} {d : ZeroStep} (rest : List Micro)
    (hf : ∀ m, m ∈ frames → m.fitsLock true = true ∧ ∀ b, m ≠ .act (.lock b)) (hd : d.decision = true) :
    lockedPlan false (attemptPlan frames d ++ rest) = lockedPlan false rest := by
  have hl : ∀ b, d ≠ .lock b := by rintro b rfl; simp [ZeroStep.decision] at hd
  simp [attemptPlan, List.append_assoc, lockedPlan_append true _ hf, lockedPlan_act false _ hl, Micro.fitsLock,
    betweenAttempts, hd]

/-- R168: a recovery keeps it: the pulse and the decision both want LOCK = 0. -/
theorem lockedPlan_recover (s : State) {z : ZeroStep} (h : z.decision = true) :
    lockedPlan false (s.recover z).plan = lockedPlan false s.plan := by
  have hl : ∀ b, z ≠ .lock b := by rintro b rfl; simp [ZeroStep.decision] at h
  simp [State.recover, State.push, lockedPlan_act false _ hl, Micro.fitsLock, betweenAttempts, h]

end Sys2Proof.Machine
end

