-- ==== Sys2Proof/Laws/Memory.lean ====
section
/-! SUPPORT. The laws of the buffers: read after write, the frame of a write, and the canonical form. -/

namespace Sys2Proof.Machine

open Sys2Proof

/-- Nothing below the least index of a canonical buffer has been written. -/
theorem Memory.read_eq_none_of_rising {m : Memory} {lo i : Nat} (h : Memory.rising lo m = true) (hi : i < lo) :
    Memory.read m i = none := by
  induction m generalizing lo with
  | nil => rfl
  | cons c m ih =>
    obtain ⟨a, v⟩ := c
    simp only [Memory.rising, Bool.and_eq_true, decide_eq_true_eq] at h
    have hne : a ≠ i := by omega
    simp only [Memory.read, hne, if_false]
    exact ih h.2 (by omega)

/-- A byte written reads back. -/
theorem Memory.read_write_same (m : Memory) (i : Nat) (v : Byte) : Memory.read (Memory.write m i v) i = some v := by
  induction m with
  | nil => simp [Memory.write, Memory.read]
  | cons c m ih =>
    obtain ⟨a, w⟩ := c
    unfold Memory.write
    split
    · simp [Memory.read]
    · split
      · simp [Memory.read]
      · have : a ≠ i := by omega
        simp [Memory.read, this, ih]

/-- A write leaves every other index alone. -/
theorem Memory.read_write_other (m : Memory) {i j : Nat} (v : Byte) (h : j ≠ i) :
    Memory.read (Memory.write m i v) j = Memory.read m j := by
  induction m with
  | nil => simp [Memory.write, Memory.read, h.symm]
  | cons c m ih =>
    obtain ⟨a, w⟩ := c
    unfold Memory.write
    split
    · simp [Memory.read, h.symm]
    · split
      · subst_vars
        simp [Memory.read, h.symm]
      · simp only [Memory.read, ih]

/-- Read after write, in one line. -/
theorem Memory.read_write (m : Memory) (i j : Nat) (v : Byte) :
    Memory.read (Memory.write m i v) j = if j = i then some v else Memory.read m j := by
  split
  · subst_vars; exact Memory.read_write_same ..
  · exact Memory.read_write_other _ _ ‹_›

/-- A write keeps the indices rising from any bound that admits its index. -/
theorem Memory.rising_write {m : Memory} {lo i : Nat} (v : Byte) (h : Memory.rising lo m = true) (hlo : lo ≤ i)
    (hi : i < Config.PAGE_SIZE) : Memory.rising lo (Memory.write m i v) = true := by
  induction m generalizing lo with
  | nil => simp [Memory.write, Memory.rising, hlo, hi]
  | cons c m ih =>
    obtain ⟨a, w⟩ := c
    simp only [Memory.rising, Bool.and_eq_true, decide_eq_true_eq] at h
    unfold Memory.write
    split
    · simp only [Memory.rising, Bool.and_eq_true, decide_eq_true_eq]
      exact ⟨⟨hlo, hi⟩, ⟨by omega, h.1.2⟩, h.2⟩
    · split
      · subst_vars
        simp only [Memory.rising, Bool.and_eq_true, decide_eq_true_eq]
        exact ⟨h.1, h.2⟩
      · simp only [Memory.rising, Bool.and_eq_true, decide_eq_true_eq]
        exact ⟨h.1, ih h.2 (by omega)⟩

/-- A write keeps the canonical form. -/
theorem Memory.wf_write {m : Memory} {i : Nat} (v : Byte) (h : m.wf = true) (hi : i < Config.PAGE_SIZE) :
    (m.write i v).wf = true :=
  Memory.rising_write v h (Nat.zero_le i) hi

/-- The zero fill keeps the canonical form. -/
theorem Memory.wf_zeroFill {m : Memory} {n : Nat} (h : m.wf = true) (hn : n ≤ Config.PAGE_SIZE) :
    (m.zeroFill n).wf = true := by
  induction n with
  | zero => exact h
  | succ n ih => exact Memory.wf_write 0#8 (ih (by omega)) (by omega)

/-- What the zero fill leaves: zero below `n`, every other index as it was. -/
theorem Memory.read_zeroFill (m : Memory) (n i : Nat) :
    Memory.read (m.zeroFill n) i = if i < n then some 0#8 else m.read i := by
  induction n with
  | zero => simp [Memory.zeroFill]
  | succ n ih =>
    rw [Memory.zeroFill, Memory.read_write, ih]
    by_cases h : i = n
    · simp [h]
    · have : (i < n + 1) = (i < n) := by simp; omega
      simp [h, this]

/-- What the comparison answers, when it does: whether the first `n` bytes agree. -/
theorem Memory.sameBytes_ok {v b : Memory} {n : Nat} {r : Bool} (h : Memory.sameBytes v b n = .ok r) :
    (∀ i, i < n → (v.read i).isSome = true ∧ (b.read i).isSome = true) ∧
      (r = true ↔ ∀ i, i < n → v.read i = b.read i) := by
  induction n generalizing r with
  | zero => simp [Memory.sameBytes] at h; simp [← h]
  | succ n ih =>
    unfold Memory.sameBytes at h
    cases hv : v.read n <;> cases hb : b.read n <;> simp only [hv, hb] at h <;> try contradiction
    rename_i x y
    cases hs : Memory.sameBytes v b n <;> simp only [hs] at h <;> try contradiction
    rename_i r'
    obtain ⟨h1, h2⟩ := ih hs
    simp only [Except.ok.injEq] at h
    subst h
    constructor
    · intro i hi
      by_cases e : i = n
      · subst e; simp [hv, hb]
      · exact h1 i (by omega)
    · simp only [Bool.and_eq_true, beq_iff_eq, h2]
      constructor
      · rintro ⟨e, h⟩ i hi
        by_cases e' : i = n
        · subst e'; simp [hv, hb, e]
        · exact h i (by omega)
      · intro h
        have := h n (by omega)
        exact ⟨by simpa [hv, hb] using this, fun i hi => h i (by omega)⟩

/-- The comparison answers when both buffers hold the first `n` bytes. -/
theorem Memory.sameBytes_answers {v b : Memory} {n : Nat}
    (h : ∀ i, i < n → (v.read i).isSome = true ∧ (b.read i).isSome = true) :
    ∃ r, Memory.sameBytes v b n = .ok r := by
  induction n with
  | zero => exact ⟨true, rfl⟩
  | succ n ih =>
    obtain ⟨r, hr⟩ := ih fun i hi => h i (by omega)
    obtain ⟨h1, h2⟩ := h n (by omega)
    obtain ⟨x, hx⟩ := Option.isSome_iff_exists.mp h1
    obtain ⟨y, hy⟩ := Option.isSome_iff_exists.mp h2
    exact ⟨x == y && r, by simp only [Memory.sameBytes, hx, hy, hr]⟩

end Sys2Proof.Machine
end

