-- ==== Sys2Proof/Laws/PerInstr.lean ====
section
/-! SUPPORT. Statements made per instruction: one family, one lemma for each constructor of Instr. -/

namespace Sys2Proof.Laws

open Sys2Proof

/-- The code word of an instruction fits its width, so that the decoder's first check never refuses an encoded instruction. -/
def Encoded.Statement (i : Instr) : Prop := (encode i).word < 2 ^ (encode i).width

theorem Encoded.waittick : Encoded.Statement .waittick := by unfold Encoded.Statement; decide

theorem Encoded.slot (a : SlotAct) : Encoded.Statement (.slot a) := by cases a <;> (unfold Encoded.Statement; decide)

theorem Encoded.driveHigh : Encoded.Statement .driveHigh := by unfold Encoded.Statement; decide

theorem Encoded.driveLow : Encoded.Statement .driveLow := by unfold Encoded.Statement; decide

theorem Encoded.release : Encoded.Statement .release := by unfold Encoded.Statement; decide

theorem Encoded.sample : Encoded.Statement .sample := by unfold Encoded.Statement; decide

theorem Encoded.noaction : Encoded.Statement .noaction := by unfold Encoded.Statement; decide

theorem Encoded.cleartick : Encoded.Statement .cleartick := by unfold Encoded.Statement; decide

theorem Encoded.txbit (b : Bit) : Encoded.Statement (.txbit b) := by cases b <;> (unfold Encoded.Statement; decide)

theorem Encoded.txbitOne : Encoded.Statement .txbitOne := by unfold Encoded.Statement; decide

theorem Encoded.txbitZero : Encoded.Statement .txbitZero := by unfold Encoded.Statement; decide

theorem Encoded.rxbit : Encoded.Statement .rxbit := by unfold Encoded.Statement; decide

theorem Encoded.rxbitOne : Encoded.Statement .rxbitOne := by unfold Encoded.Statement; decide

theorem Encoded.rxbitZero : Encoded.Statement .rxbitZero := by unfold Encoded.Statement; decide

theorem Encoded.rxbitInvalidLL : Encoded.Statement .rxbitInvalidLL := by unfold Encoded.Statement; decide

theorem Encoded.rxbitInvalidHH : Encoded.Statement .rxbitInvalidHH := by unfold Encoded.Statement; decide

theorem Encoded.mak : Encoded.Statement .mak := by unfold Encoded.Statement; decide

theorem Encoded.nomak : Encoded.Statement .nomak := by unfold Encoded.Statement; decide

theorem Encoded.sak : Encoded.Statement .sak := by unfold Encoded.Statement; decide

theorem Encoded.txbyte (v : Byte) : Encoded.Statement (.txbyte v) := by
  have := v.isLt
  simp only [Encoded.Statement, encode]
  omega

theorem Encoded.txbyteSync : Encoded.Statement .txbyteSync := by unfold Encoded.Statement; decide

theorem Encoded.rxbyte : Encoded.Statement .rxbyte := by unfold Encoded.Statement; decide

theorem Encoded.ackx (check : Bool) : Encoded.Statement (.ackx check) := by cases check <;> (unfold Encoded.Statement; decide)

theorem Encoded.syncByte : Encoded.Statement .syncByte := by unfold Encoded.Statement; decide

theorem Encoded.deviceAddress : Encoded.Statement .deviceAddress := by unfold Encoded.Statement; decide

theorem Encoded.cmdRdsr : Encoded.Statement .cmdRdsr := by unfold Encoded.Statement; decide

theorem Encoded.cmdWren : Encoded.Statement .cmdWren := by unfold Encoded.Statement; decide

theorem Encoded.cmdRead : Encoded.Statement .cmdRead := by unfold Encoded.Statement; decide

theorem Encoded.cmdWrite : Encoded.Statement .cmdWrite := by unfold Encoded.Statement; decide

theorem Encoded.fstart : Encoded.Statement .fstart := by unfold Encoded.Statement; decide

theorem Encoded.fend : Encoded.Statement .fend := by unfold Encoded.Statement; decide

theorem Encoded.spulse : Encoded.Statement .spulse := by unfold Encoded.Statement; decide

theorem Encoded.addressed (c : Byte) (mc withAddr : Bool) : Encoded.Statement (.addressed c mc withAddr) := by
  have := c.isLt
  cases mc <;> cases withAddr <;> simp [Encoded.Statement, encode] <;> omega

theorem Encoded.fPresence : Encoded.Statement .fPresence := by unfold Encoded.Statement; decide

theorem Encoded.fWren : Encoded.Statement .fWren := by unfold Encoded.Statement; decide

theorem Encoded.fRead (d : Dest) : Encoded.Statement (.fRead d) := by cases d <;> (unfold Encoded.Statement; decide)

theorem Encoded.fWrite : Encoded.Statement .fWrite := by unfold Encoded.Statement; decide

theorem Encoded.fPoll : Encoded.Statement .fPoll := by unfold Encoded.Statement; decide

theorem Encoded.presence (len : Byte) (addr : Half) : Encoded.Statement (.presence len addr) := by
  have := len.isLt
  have := addr.isLt
  simp only [Encoded.Statement, encode, hostCode]
  omega

theorem Encoded.read (len : Byte) (addr : Half) : Encoded.Statement (.read len addr) := by
  have := len.isLt
  have := addr.isLt
  simp only [Encoded.Statement, encode, hostCode]
  omega

theorem Encoded.write (len : Byte) (addr : Half) : Encoded.Statement (.write len addr) := by
  have := len.isLt
  have := addr.isLt
  simp only [Encoded.Statement, encode, hostCode]
  omega

theorem Encoded.standby (len : Byte) (addr : Half) : Encoded.Statement (.standby len addr) := by
  have := len.isLt
  have := addr.isLt
  simp only [Encoded.Statement, encode, hostCode]
  omega

theorem Encoded.start : Encoded.Statement .start := by unfold Encoded.Statement; decide

theorem Encoded.readcore (d : Dest) : Encoded.Statement (.readcore d) := by cases d <;> (unfold Encoded.Statement; decide)

theorem Encoded.verify : Encoded.Statement .verify := by unfold Encoded.Statement; decide

theorem Encoded.linkreset : Encoded.Statement .linkreset := by unfold Encoded.Statement; decide

end Sys2Proof.Laws
end

