-- ==== Sys2Proof/Tests/Slice0.lean ====
section
/-! SUPPORT. Tests: ill-formed terms, a word for every constructor written out from spec/30_encoding.md and the table, small steps
with results taken from the spec, and for each statement with hypotheses a state that meets them. -/

namespace Sys2Proof.Tests

open Sys2Proof Sys2Proof.Machine

/-! ### Well-formedness: each check refuses an ill-formed term (R67, R74, R77) -/

/-- R74: 0x42 is no command byte. -/
theorem test_wf_command : (Instr.addressed 0x42#8 true false).wf = false := by decide
/-- R77: the write-enable command carries NoMAK. -/
theorem test_wf_mak : (Instr.addressed 0x96#8 true false).wf = false := by decide
/-- R67: status-read takes no address. -/
theorem test_wf_no_address : (Instr.addressed 0x05#8 true true).wf = false := by decide
/-- R67: read takes an address. -/
theorem test_wf_address : (Instr.addressed 0x03#8 true false).wf = false := by decide
/-- The four addressed parts of R133 to R138 are well formed. -/
theorem test_wf_good : [Instr.addressed 0x05#8 true false, .addressed 0x96#8 false false, .addressed 0x03#8 true true,
    .addressed 0x6C#8 true true].all Instr.wf = true := by decide

/-! ### Decoding: a word of every row -/

/-- The rows without a pattern, by their place in the table (log 19). -/
theorem test_decode_waittick : decode ⟨.named, 8, 0, 0⟩ = .ok .waittick := by decide
theorem test_decode_driveHigh : decode ⟨.named, 8, 2, 0⟩ = .ok .driveHigh := by decide
theorem test_decode_driveLow : decode ⟨.named, 8, 3, 0⟩ = .ok .driveLow := by decide
theorem test_decode_release : decode ⟨.named, 8, 4, 0⟩ = .ok .release := by decide
theorem test_decode_sample : decode ⟨.named, 8, 5, 0⟩ = .ok .sample := by decide
theorem test_decode_noaction : decode ⟨.named, 8, 6, 0⟩ = .ok .noaction := by decide
theorem test_decode_cleartick : decode ⟨.named, 8, 7, 0⟩ = .ok .cleartick := by decide
theorem test_decode_fstart : decode ⟨.named, 8, 29, 0⟩ = .ok .fstart := by decide
theorem test_decode_fend : decode ⟨.named, 8, 30, 0⟩ = .ok .fend := by decide
theorem test_decode_spulse : decode ⟨.named, 8, 31, 0⟩ = .ok .spulse := by decide
theorem test_decode_start : decode ⟨.named, 8, 42, 0⟩ = .ok .start := by decide
theorem test_decode_readcore : decode ⟨.named, 8, 43, 0⟩ = .ok (.readcore .buf) ∧
    decode ⟨.named, 8, 43, 1⟩ = .ok (.readcore .vbuf) := by decide
theorem test_decode_verify : decode ⟨.named, 8, 44, 0⟩ = .ok .verify := by decide
theorem test_decode_linkreset : decode ⟨.named, 8, 45, 0⟩ = .ok .linkreset := by decide
/-- R8: the characters `H L Z S -`, here by their ASCII codes, bit by bit. -/
theorem test_decode_slot : [0b01001000, 0b01001100, 0b01011010, 0b01010011, 0b00101101].map
    (fun w => decode ⟨.slot, 8, w, 0⟩) = [.ok (.slot .high), .ok (.slot .low), .ok (.slot .release), .ok (.slot .sample),
      .ok (.slot .idle)] := by decide
/-- R61: `nb` with n = NOT b. -/
theorem test_decode_txbit : decode ⟨.cellTx, 2, 0b01, 1⟩ = .ok (.txbit true) ∧
    decode ⟨.cellTx, 2, 0b10, 1⟩ = .ok (.txbit false) := by decide
theorem test_decode_txbitOne : decode ⟨.cellTx, 2, 0b01, 0⟩ = .ok .txbitOne := by decide
theorem test_decode_txbitZero : decode ⟨.cellTx, 2, 0b10, 0⟩ = .ok .txbitZero := by decide
/-- R62: the pairs of samples. -/
theorem test_decode_rxbit : decode ⟨.cellRx, 2, 0b11, 1⟩ = .ok .rxbit := by decide
theorem test_decode_rxbitOne : decode ⟨.cellRx, 2, 0b10, 0⟩ = .ok .rxbitOne := by decide
theorem test_decode_rxbitZero : decode ⟨.cellRx, 2, 0b01, 0⟩ = .ok .rxbitZero := by decide
theorem test_decode_rxbitInvalidLL : decode ⟨.cellRx, 2, 0b00, 0⟩ = .ok .rxbitInvalidLL := by decide
theorem test_decode_rxbitInvalidHH : decode ⟨.cellRx, 2, 0b11, 0⟩ = .ok .rxbitInvalidHH := by decide
/-- R65, R66. -/
theorem test_decode_mak : decode ⟨.ackMaster, 1, 0b1, 0⟩ = .ok .mak := by decide
theorem test_decode_nomak : decode ⟨.ackMaster, 1, 0b0, 0⟩ = .ok .nomak := by decide
theorem test_decode_sak : decode ⟨.ackSlave, 2, 0b10, 0⟩ = .ok .sak := by decide
/-- R64: `ddddddddms` with d = 0xA0 = 10100000, m = 1, s as it may be. -/
theorem test_decode_txbyte : decode ⟨.byteframeTx, 10, 0b1010000010, 0⟩ = .ok (.txbyte 0xA0#8) ∧
    decode ⟨.byteframeTx, 10, 0b1010000011, 0⟩ = .ok (.txbyte 0xA0#8) := by decide
/-- R117: `010101011z`. -/
theorem test_decode_txbyteSync : decode ⟨.byteframeTx, 10, 0b0101010110, 1⟩ = .ok .txbyteSync := by decide
/-- R64: `rrrrrrrrms`, every letter supplied at run time. -/
theorem test_decode_rxbyte : decode ⟨.byteframeRx, 10, 0b1101111001, 0⟩ = .ok .rxbyte := by decide
/-- R112: `ms`, its slave cell sampled or not. -/
theorem test_decode_ackx : decode ⟨.byteframeAck, 2, 0b10, 0⟩ = .ok (.ackx true) ∧
    decode ⟨.byteframeAck, 2, 0b10, 1⟩ = .ok (.ackx false) := by decide
/-- R74, the column "binary". -/
theorem test_decode_syncByte : decode ⟨.byte, 8, 0b01010101, 0⟩ = .ok .syncByte := by decide
theorem test_decode_deviceAddress : decode ⟨.byte, 8, 0b10100000, 0⟩ = .ok .deviceAddress := by decide
theorem test_decode_cmdRdsr : decode ⟨.byte, 8, 0b00000101, 0⟩ = .ok .cmdRdsr := by decide
theorem test_decode_cmdWren : decode ⟨.byte, 8, 0b10010110, 0⟩ = .ok .cmdWren := by decide
theorem test_decode_cmdRead : decode ⟨.byte, 8, 0b00000011, 0⟩ = .ok .cmdRead := by decide
theorem test_decode_cmdWrite : decode ⟨.byte, 8, 0b01101100, 0⟩ = .ok .cmdWrite := by decide
/-- `101000001s ccccccccms [hhhhhhhh1s llllllll1s]`: with 0x05, and with 0x03, address 0x0123, every `s` 1. -/
theorem test_decode_addressed : decode ⟨.framePart, 20, 0b1010000010_0000010110, 0⟩ = .ok (.addressed 0x05#8 true false) ∧
    decode ⟨.framePart, 40, 0b1010000011_0000001111_0000000111_0010001111, 0⟩ = .ok (.addressed 0x03#8 true true) := by
  decide
/-- R68: `010101011z 101000001s 000001011s rrrrrrrr0s`. -/
theorem test_decode_fPresence :
    decode ⟨.frame, 40, 0b0101010110_1010000010_0000010110_1111111100, 0⟩ = .ok .fPresence := by decide
/-- R69. -/
theorem test_decode_fWren : decode ⟨.frame, 30, 0b0101010110_1010000010_1001011000, 0⟩ = .ok .fWren := by decide
/-- R70: address 0x0123, one data byte 0xDE with NoMAK. -/
theorem test_decode_fRead :
    decode ⟨.frame, 60, 0b0101010110_1010000010_0000001110_0000000110_0010001110_1101111000, 0⟩ = .ok (.fRead .buf) ∧
    decode ⟨.frame, 60, 0b0101010110_1010000010_0000001110_0000000110_0010001110_1101111000, 1⟩ = .ok (.fRead .vbuf) := by
  decide
/-- R71: address 0x0010, one data byte 0x12 with NoMAK. -/
theorem test_decode_fWrite :
    decode ⟨.frame, 60, 0b0101010110_1010000010_0110110010_0000000010_0001000010_0001001000, 0⟩ = .ok .fWrite := by decide
/-- R72: the status byte carries MAK, which tells it from R68. -/
theorem test_decode_fPoll :
    decode ⟨.frame, 40, 0b0101010110_1010000010_0000010110_0000000110, 0⟩ = .ok .fPoll := by decide
/-- R79: `OP LEN ADDR`; the READ, the WRITE and the two without operands of the vectors P1 to P4. -/
theorem test_decode_presence : decode ⟨.hostop, 26, 0b00_00000000_0000000000000000, 0⟩ = .ok (.presence 0#8 0#16) := by
  decide
theorem test_decode_read : decode ⟨.hostop, 26, 0b01_11001000_0000000000000000, 0⟩ = .ok (.read 200#8 0#16) := by decide
theorem test_decode_write : decode ⟨.hostop, 26, 0b10_00000001_0000000000100000, 0⟩ = .ok (.write 1#8 0x0020#16) := by
  decide
theorem test_decode_standby : decode ⟨.hostop, 26, 0b11_00000000_0000000000000000, 0⟩ = .ok (.standby 0#8 0#16) := by
  decide
/-- A table word goes through the same decoder (log 20). -/
theorem test_table_word : decodeTableWord 32 0b01_00000010_0000000100100011 = some (.read 2#8 0x0123#16) ∧
    decodeTableWord 8 0x6C = some .cmdWrite ∧ decodeTableWord 8 0x42 = none := by decide

/-! ### Steps, with results from the spec -/

/-- A state with a tick pending, the line released, two answers ready and both buffers partly written. -/
def ready : State :=
  { State.reset with tickPending := true, samples := [true, false, true, true], buf := [(0, 0x12#8), (1, 0x34#8)],
                     vbuf := [(0, 0x12#8), (1, 0x35#8)] }

/-- The next state, if there is one. -/
def next? (r : Result) : Option State :=
  match r with
  | .next t => some t
  | .fault _ => none
  | .refused _ => none

/-- R90: the flag is left clear. -/
theorem test_waittick : (next? (exec .waittick ready)).map (·.tickPending) = some false := by decide
/-- R92: `Drive(0)` from DIR = IN. -/
theorem test_driveLow : (next? (exec .driveLow ready)).map (fun t => (t.dir, t.lvl)) = some (.output, false) := by decide
theorem test_driveHigh : (next? (exec .driveHigh ready)).map (fun t => (t.dir, t.lvl)) = some (.output, true) := by decide
/-- R93: LVL keeps its value. -/
theorem test_release : (next? (exec .release { ready with dir := .output, lvl := false })).map
    (fun t => (t.dir, t.lvl)) = some (.input, false) := by decide
/-- R94: the environment's next answer. -/
theorem test_sample : (next? (exec .sample ready)).map (fun t => (t.sampleOut, t.samples.length)) = some (true, 3) := by
  decide
/-- U11: a sample of a driven line is refused. -/
theorem test_sample_driving : exec .sample { ready with dir := .output } = .refused .sampleWhileDriving := by rfl
/-- R91. -/
theorem test_slot_low : (next? (exec (.slot .low) ready)).map (fun t => (t.tickPending, t.dir, t.lvl, t.wire)) =
    some (false, .output, false, [.low]) := by decide
/-- R96: `TxBit(1)` starts low. -/
theorem test_txbit : (next? (exec (.txbit true) ready)).map (fun t => (t.plan.head?, t.seq.ph)) =
    some (some (.op (.slot .low)), 0) := by decide
/-- R97: (1,1) is INVALID, sets LERR and reads 0. -/
theorem test_judge_invalid : (next? (runZero .judge { ready with s1 := true, s2 := true })).map
    (fun t => (t.bitres, t.lerr, bitData t.bitres)) = some (.invalid, true, false) := by decide
/-- R97: (1,0) is ONE. -/
theorem test_judge_one : (next? (runZero .judge { ready with s1 := true, s2 := false })).map
    (fun t => (t.bitres, t.lerr, bitData t.bitres)) = some (.one, false, true) := by decide
/-- R66, R114: ZERO in a slave cell is a missing acknowledge. -/
theorem test_slaveCheck : (next? (runZero .slaveCheck { ready with bitres := .zero })).map (·.cerr) = some true := by decide
/-- R113. -/
theorem test_escalate : (next? (runZero .escalate { ready with lerr := true })).map (·.cerr) = some true := by decide
/-- R83: bit 7 is dropped. -/
theorem test_txShift : (next? (runZero .txShift { ready with txb := 0xA5#8 })).map (·.txb) = some 0x4A#8 := by decide
/-- R111: the new bit enters bit 0. -/
theorem test_rxShift : (next? (runZero .rxShift { ready with rxb := 0xA5#8, bitres := .one })).map (·.rxb) = some 0x4B#8 := by
  decide
/-- R138, R209 c: a 120th status byte with WIP clear is no timeout; one with WIP set is. -/
theorem test_poll_ceiling : (next? (runZero .pollTest { ready with rxb := 0xFE#8, seq.pcnt := 119 })).map
    (fun t => (t.cerr, t.seq.pcnt, t.plan)) = some (false, 120, []) ∧
    (next? (runZero .pollTest { ready with rxb := 0x01#8, seq.pcnt := 119 })).map
      (fun t => (t.cerr, t.seq.pcnt, t.plan)) = some (true, 120, []) := by decide
/-- R136: byte IDX is stored. -/
theorem test_readNext : (next? (runZero (.readNext .buf) { ready with rxb := 0xDE#8, n := 2, seq.idx := 1 })).map
    (fun t => (t.buf, t.seq.idx)) = some ([(0, 0x12#8), (1, 0xDE#8)], 1) := by decide
/-- R76: 0x0123 is sent high byte first. -/
theorem test_address_bytes : (addrHigh 0x0123#16, addrLow 0x0123#16) = (0x01#8, 0x23#8) := by decide
/-- R77: NoMAK on the last payload byte only. -/
theorem test_payloadMak : (payloadMak 0 1, payloadMak 0 2, payloadMak 1 2) = (false, true, false) := by decide
/-- R174: LEN 200 means 16. -/
theorem test_clamp : (clampLen 0#8, clampLen 16#8, clampLen 200#8) = (0, 16, 16) := by decide
/-- R33. -/
theorem test_linkreset : (next? (exec .linkreset { ready with txb := 1#8, lerr := true, cerr := true, makf := true })).map
    (fun t => (t.txb, t.lerr, t.cerr, t.makf, t.bitres)) = some (0#8, false, false, false, .invalid) := by decide
/-- R160: START with OP = 0b10 begins a WRITE of min(LEN, 16) bytes and clears the tick flag. -/
theorem test_start : (next? (exec .start { ready with op := 2#2, len := 17#8 })).map
    (fun t => (t.busy, t.seq.top, t.n, t.tickPending)) = some (true, .write, 16, false) := by decide
/-- R173: length 0 fails at once. -/
theorem test_zero_length : (next? (exec (.read 0#8 5#16) { ready with result := true })).map
    (fun t => (t.busy, t.result, t.plan, t.tickPending)) = some (false, false, [], true) := by decide
/-- R168: after a third failed attempt there is no fourth, and BUF[0..N-1] is zero. -/
theorem test_read_exhausted : (next? (runZero (.readAttempt .buf) { ready with n := 2, seq.att := 3 })).map
    (fun t => (t.callOk, t.buf)) = some (false, [(0, 0#8), (1, 0#8)]) := by decide
/-- R167: 0x35 read back for 0x34 fails the verify; with the parameter true, so does equal data after a failed read-back. -/
theorem test_verify_mismatch : [(2, true), (1, true), (1, false)].map (fun x =>
      (next? (runZero .compare { ready with params.verifyUsesReadStatus := true, n := x.1, callOk := x.2 })).map (·.callOk)) =
    [some false, some true, some false] := by decide
/-- U15: a byte never written stops the WRITE. -/
theorem test_unwritten : runZero .writeByte { ready with n := 3, seq.idx := 2 } = .fault (.unwrittenBuffer .buf 2) := by rfl
/-- R235: no re-entry. -/
theorem test_reentry : exec .start { ready with busy := true } = .refused .startWhileBusy := by rfl
/-- R230: after a reset of a busy block it is idle and the line released. -/
theorem test_reset : (next? (step { ready with busy := true, plan := [.act .judge], schedule := [.host .reset] })).map
    (fun t => (t.busy, t.plan, t.dir, t.lvl)) = some (false, [], .input, true) := by decide
/-- R6: at 100 µs the least STANDBY_TICKS with `STANDBY_TICKS * T_Q >= 600 µs` is 24; at 10 µs it is the default, 240. -/
theorem test_legal_standby : [(23, 100000), (24, 100000), (239, 10000), (240, 10000), (1, 100000)].map
    (fun x => { Config.defaultParams with standbyTicks := x.1 }.legal x.2) = [false, true, false, true, false] := by decide
/-- U7: the tick source is configured to 10 µs to 100 µs only. -/
theorem test_configureTick : [9999, 10000, 100000, 100001].map (fun t => (next? (ready.configureTick t)).map (·.bitPeriod)) =
    [none, some 10000, some 100000, none] := by decide
/-- A word placed by withFetchWord is run by the next step: PRESENCE's sets BUSY. -/
theorem test_fetch : (next? (step (State.reset.withFetchWord 32 0))).map (fun t => (t.busy, t.seq.top)) =
    some (true, .presence) := by decide

/-! ### Witnesses: a state and operands that meet all the hypotheses of a statement -/

theorem ready_Ready : Ready ready := ⟨rfl, rfl⟩
theorem ready_sound : ready.params.sound = true := by decide

/-- Both ends of the range of bit periods. -/
theorem witness_ResetMeetsTheInvariants : (10000 ≤ 10000 ∧ 10000 ≤ 100000) ∧ (10000 ≤ 100000 ∧ 100000 ≤ 100000) := by decide
theorem witness_RunningResetGivesTheTable : { ready with schedule := [.host .reset] }.schedule = .host .reset :: [] := rfl

/-- A tick pending; and none, before a WAITTICK and a slot, with the tick source on, off, and a move given to the sequencer. -/
theorem witness_WaittickWaitsForATick : ready.tickPending = true ∧
    let s (i : Instr) : State := { State.reset with plan := [.op i], tickPending := false }
    ∀ i : Instr, (i = .waittick ∨ ∃ a, i = .slot a) → (s i).plan = .op i :: [] ∧ (s i).tickPending = false ∧
      (s i).schedule = [] ∧ (s i).tickOn = true ∧ { s i with tickOn := false }.tickOn = false ∧
      { s i with schedule := [.sequencer] }.schedule = .sequencer :: [] :=
  ⟨rfl, fun _ _ => ⟨rfl, rfl, rfl, rfl, rfl, rfl⟩⟩
theorem witness_SlotTakesOneTickAndActs : ready.tickPending = true ∧ ready.dir = .input ∧
    { ready with dir := .output }.dir = .output := ⟨rfl, rfl, rfl⟩
theorem witness_SampleAnswersTheLine : ready.dir = .input ∧ { ready with dir := .output }.dir = .output ∧
    ready.samples = true :: [false, true, true] := ⟨rfl, rfl, rfl⟩
theorem witness_TxbitSendsItsSymbol : Ready ready := ready_Ready
theorem witness_FixedTransmitCells : Ready ready := ready_Ready
theorem witness_RxbitJudgesItsPair : Ready ready := ready_Ready
theorem witness_ReceivedSymbols : Ready ready ∧ ready.params.sound = true := ⟨ready_Ready, ready_sound⟩
theorem witness_SakIsAnAcknowledgedCell : Ready ready := ready_Ready
theorem witness_AckxExchangesAcknowledges : Ready ready := ready_Ready
theorem witness_TxbyteSendsMostSignificantFirst : Ready ready := ready_Ready
theorem witness_SyncFrameIsUnchecked : Ready ready := ready_Ready
theorem witness_FixedBytesOfAFrame : Ready ready := ready_Ready
theorem witness_RxbyteAssemblesTheByte : Ready ready := ready_Ready
theorem witness_FstartIsThePreamble : Ready ready ∧ ready.params.sound = true := ⟨ready_Ready, ready_sound⟩
theorem witness_FendDrivesIdle : Ready ready := ready_Ready
theorem witness_SpulseHoldsHigh : Ready ready := ready_Ready
theorem witness_AddressedSendsTheHeader : Ready ready := ready_Ready
theorem witness_FPresenceLatchesTheAddressAcknowledge : Ready ready ∧ ready.params.sound = true :=
  ⟨ready_Ready, ready_sound⟩
theorem witness_FWrenSendsWriteEnable : Ready ready ∧ ready.params.sound = true := ⟨ready_Ready, ready_sound⟩
/-- At both ends of N's range. -/
theorem witness_FReadStoresThePayload : Ready { ready with n := 16 } ∧ Ready { ready with n := 0 } ∧
    ready.params.sound = true ∧ { ready with n := 16 }.n ≤ 16 ∧ { ready with n := 0 }.n ≤ 16 :=
  ⟨⟨rfl, rfl⟩, ⟨rfl, rfl⟩, ready_sound, by decide, by decide⟩
/-- `ready` with a BUF that the host has written whole. -/
def full : State := { ready with buf := (List.range 16).map fun i => (i, BitVec.ofNat 8 (17 * i)) }

theorem full_Written (k : Nat) (h : k ≤ 16) : Written full k := fun i hi => by
  have := hi.trans_le h
  interval_cases i <;> rfl

/-- At both ends of N's range, and with a BUF written only in part. -/
theorem witness_FWriteSendsTheBuffer : ready.params.sound = true ∧
    Ready { full with n := 16 } ∧ Written { full with n := 16 } { full with n := 16 }.n ∧
    Ready { ready with n := 2 } ∧ Written { ready with n := 2 } { ready with n := 2 }.n ∧
    Ready { ready with n := 1 } ∧ Written { ready with n := 1 } { ready with n := 1 }.n ∧
    Ready { ready with n := 0 } ∧ Written { ready with n := 0 } { ready with n := 0 }.n :=
  ⟨ready_sound, ⟨rfl, rfl⟩, full_Written 16 (by decide), ⟨rfl, rfl⟩, by unfold Written; decide, ⟨rfl, rfl⟩,
    by unfold Written; decide, ⟨rfl, rfl⟩, by unfold Written; decide⟩
theorem witness_UnwrittenPayloadIsAFault :
    let s : State := { ready with n := 3, seq.idx := 2, plan := [.act .writeByte] }
    s.schedule = [] ∧ s.plan = .act .writeByte :: [] ∧ s.seq.idx < s.n ∧ s.buf.read s.seq.idx = none := by decide
theorem witness_FPollReadsUntilClear : Ready ready ∧ ready.params.sound = true := ⟨ready_Ready, ready_sound⟩
theorem witness_ReadcoreMakesAtMostThreeAttempts : Ready { ready with n := 16 } ∧ Ready { ready with n := 0 } ∧
    ready.params.sound = true ∧ { ready with n := 16 }.n ≤ 16 ∧ { ready with n := 0 }.n ≤ 16 :=
  ⟨⟨rfl, rfl⟩, ⟨rfl, rfl⟩, ready_sound, by decide, by decide⟩
theorem witness_VerifyComparesTheReadBack : Ready { ready with n := 2 } ∧ ready.params.sound = true ∧
    { ready with n := 2 }.n ≤ 16 ∧ Written { ready with n := 2 } 2 :=
  ⟨⟨rfl, rfl⟩, ready_sound, by decide, by unfold Written; decide⟩
/-- A verify of a full page. -/
theorem witness_VerifyOfAFullPage : Ready { full with n := 16 } ∧ full.params.sound = true ∧ { full with n := 16 }.n ≤ 16 ∧
    Written { full with n := 16 } 16 := ⟨⟨rfl, rfl⟩, ready_sound, by decide, full_Written 16 (by decide)⟩
theorem witness_PresenceAnswersTheAddressAcknowledge : Ready ready ∧ ready.params.sound = true ∧ ready.busy = false :=
  ⟨ready_Ready, ready_sound, rfl⟩
theorem witness_ReadEndsWithDataOrZero : Ready ready ∧ ready.params.sound = true ∧ ready.busy = false ∧
    (1#8 : Byte) ≠ 0#8 ∧ (255#8 : Byte) ≠ 0#8 := ⟨ready_Ready, ready_sound, rfl, by decide, by decide⟩
/-- The answers of a device that holds 0xDE, 0xAD, read with length 2 (P2). -/
theorem witness_ReadReturnsWhatTheLinePresents :
    let s : State := { ready with samples := answersRead ready.params [0xDE#8, 0xAD#8] ++ [true] }
    Ready s ∧ s.params.sound = true ∧ s.busy = false ∧ (2#8 : Byte) ≠ 0#8 ∧
    [0xDE#8, 0xAD#8].length = min (2#8 : Byte).toNat 16 ∧
    s.samples = answersRead s.params [0xDE#8, 0xAD#8] ++ [true] :=
  ⟨⟨rfl, rfl⟩, ready_sound, rfl, by decide, by decide, rfl⟩
/-- Lengths 1 and 2, and 16 and 255 of a full page. -/
theorem witness_WriteReportsOnlyAVerifiedWrite : Ready ready ∧ ready.params.sound = true ∧ ready.busy = false ∧
    ((1#8 : Byte) ≠ 0#8 ∧ Written ready (min (1#8 : Byte).toNat 16)) ∧
    ((2#8 : Byte) ≠ 0#8 ∧ Written ready (min (2#8 : Byte).toNat 16)) ∧
    Ready full ∧ full.params.sound = true ∧ full.busy = false ∧
    ((16#8 : Byte) ≠ 0#8 ∧ Written full (min (16#8 : Byte).toNat 16)) ∧
    ((255#8 : Byte) ≠ 0#8 ∧ Written full (min (255#8 : Byte).toNat 16)) :=
  ⟨ready_Ready, ready_sound, rfl, ⟨by decide, by unfold Written; decide⟩, ⟨by decide, by unfold Written; decide⟩, ⟨rfl, rfl⟩,
    ready_sound, rfl, ⟨by decide, full_Written 16 (by decide)⟩, ⟨by decide, full_Written 16 (by decide)⟩⟩
/-- The answers of a device that takes 0x12, 0x34 (P4's shape, two bytes), shows WIP set once, then clear; and the longest
poll, 119 status bytes with WIP set and one clear. -/
theorem witness_WriteSucceedsWhereTheDeviceAnswers :
    let vs : List Byte := [0x12#8, 0x34#8]
    let s (sts : List Byte) : State := { ready with samples := answersWrite ready.params vs (sts ++ [0x00#8]) ++ [true] }
    ∀ sts : List Byte, sts = [0x01#8] ∨ sts = List.replicate 119 0xFF#8 →
      Ready (s sts) ∧ (s sts).params.sound = true ∧ (s sts).busy = false ∧ (2#8 : Byte) ≠ 0#8 ∧
      vs.length = min (2#8 : Byte).toNat 16 ∧ (∀ i, i < vs.length → (s sts).buf.read i = vs[i]?) ∧
      sts.length < 120 ∧ (∀ x, x ∈ sts → x &&& (s sts).params.wipMask ≠ 0#8) ∧ 0x00#8 &&& (s sts).params.wipMask = 0#8 ∧
      (s sts).samples = answersWrite (s sts).params vs (sts ++ [0x00#8]) ++ [true] := by
  intro vs s sts h
  refine ⟨⟨rfl, rfl⟩, ready_sound, rfl, by decide, by decide, fun i hi => ?_, ?_, ?_, ?_, rfl⟩
  · have : i < 2 := hi
    interval_cases i <;> rfl
  · rcases h with rfl | rfl <;> simp
  · rcases h with rfl | rfl
    · decide
    · intro x hx; rw [List.eq_of_mem_replicate hx]; decide
  · show 0x00#8 &&& ready.params.wipMask = 0#8
    decide
/-- Each decision, on each side of its condition: CERR, the verify's outcome, and 2 and 3 attempts. -/
theorem witness_DecisionsFollowTheTable :
    let st (z : ZeroStep) : State := { ready with plan := [.act z] }
    (∀ z, (st z).schedule = [] ∧ (st z).plan = .act z :: [] ∧
      { st z with cerr := true }.cerr = true ∧ (st z).cerr = false ∧
      { st z with callOk := true }.callOk = true ∧ (st z).callOk = false) ∧
    (∀ z, { st z with seq.att := 2 }.seq.att < 3 ∧ 3 ≤ { st z with seq.att := 3 }.seq.att) ∧
    ∀ z d, { st z with seq.att := 2, seq.vatt := 2 }.readCount d < 3 ∧
      3 ≤ { st z with seq.att := 3, seq.vatt := 3 }.readCount d :=
  ⟨fun _ => ⟨rfl, rfl, rfl, rfl, rfl, rfl⟩, fun _ => ⟨Nat.lt_succ_self 2, le_refl 3⟩,
    fun _ d => by cases d <;> exact ⟨Nat.lt_succ_self 2, le_refl 3⟩⟩
theorem witness_StandbyIsOnePulse : Ready ready ∧ ready.busy = false := ⟨ready_Ready, rfl⟩
/-- Each of the four operation codes, with lengths 1 and 255. -/
theorem witness_StartBeginsTheOperation : ready.busy = false ∧ { ready with op := 0#2 }.op = 0#2 ∧
    { ready with op := 1#2, len := 1#8 }.op = 1#2 ∧ { ready with op := 1#2, len := 1#8 }.len ≠ 0#8 ∧
    { ready with op := 2#2, len := 255#8 }.op = 2#2 ∧ { ready with op := 2#2, len := 255#8 }.len ≠ 0#8 ∧
    { ready with op := 3#2 }.op = 3#2 := by decide
theorem witness_ZeroLengthIsRejected : ready.busy = false := rfl
theorem witness_LengthAboveSixteenIsSixteen : ready.busy = false ∧ 16 < (17#8 : Byte).toNat ∧ 16 < (255#8 : Byte).toNat := by
  decide

/-- A busy block and a host that starts an operation, accesses a register or configures the tick source. -/
theorem witness_HostIsRefusedWhileBusy (a : HostAction) :
    { ready with busy := true, schedule := [.host a] }.busy = true ∧
    { ready with busy := true, schedule := [.host a] }.schedule = .host a :: [] := ⟨rfl, rfl⟩
/-- An idle block and a host that makes each access; indices 0, 1, 15 and 16, a byte written and one that is not; bit periods
at the ends of their range and next to it. -/
theorem witness_HostAccessWhileIdle (a : HostAction) : { ready with schedule := [.host a] }.busy = false ∧
    { ready with schedule := [.host a] }.schedule = .host a :: [] ∧ 0 < 16 ∧ 15 < 16 ∧ 16 ≤ 16 ∧
    ready.buf.read 1 = some 0x34#8 ∧ ready.buf.read 15 = none ∧
    (10000 ≤ 10000 ∧ 10000 ≤ 100000) ∧ (10000 ≤ 100000 ∧ 100000 ≤ 100000) ∧ 9999 < 10000 ∧ 100000 < 100001 :=
  ⟨rfl, rfl, by decide, by decide, by decide, rfl, rfl, by decide, by decide, by decide, by decide⟩
/-- A tick with the source on and off, the flag clear and set, and the end of the ticks. -/
theorem witness_TickDeliverySetsTheFlag : { ready with schedule := [.tick] }.schedule = .tick :: [] ∧
    ready.tickOn = true ∧ { ready with tickOn := false }.tickOn = false ∧ ready.tickPending = true ∧
    State.reset.tickPending = false ∧ { ready with schedule := [.tickStop] }.schedule = .tickStop :: [] :=
  ⟨rfl, rfl, rfl, rfl, rfl, rfl⟩
theorem witness_FetchedWordIsRun : decodeTableWord 8 0xA0 = some .deviceAddress ∧ decodeTableWord 8 0xFF = none := by decide
theorem witness_StepRunsThePlan :
    { ready with plan := [.op .waittick], schedule := [.sequencer] }.schedule = .sequencer :: [] ∧
    { ready with plan := [.op .waittick] }.plan = .op .waittick :: [] ∧ ready.schedule = [] ∧ ready.tickPending = true ∧
    (Instr.mak ≠ .waittick ∧ ∀ a, Instr.mak ≠ .slot a) ∧ ready.plan = [] :=
  ⟨rfl, rfl, rfl, rfl, ⟨by decide, nofun⟩, rfl⟩
theorem witness_DecodeOfEncode : (Instr.addressed 0x6C#8 true true).wf = true := by decide
theorem witness_HostCommandWordsAreAssigned : 0 < 67108864 ∧ 67108863 < 67108864 := by decide
/-- Both equal half levels, the three other slave cells, and the bytes at the ends of the range. -/
theorem witness_WrittenOutWordsDecode : (0 = 0 ∨ 0 = 3) ∧ (3 = 0 ∨ 3 = 3) ∧ (0 < 4 ∧ 0 ≠ 2) ∧ (1 < 4 ∧ 1 ≠ 2) ∧
    (3 < 4 ∧ 3 ≠ 2) ∧ (255 < 256 ∧ 255 ≠ 0x55 ∧ 255 ≠ 0xA0 ∧ 255 ≠ 0x05 ∧ 255 ≠ 0x96 ∧ 255 ≠ 0x03 ∧ 255 ≠ 0x6C) ∧
    (0 < 256 ∧ 0 ≠ 0x55 ∧ 0 ≠ 0xA0 ∧ 0 ≠ 0x05 ∧ 0 ≠ 0x96 ∧ 0 ≠ 0x03 ∧ 0 ≠ 0x6C) := by decide

/-- A busy block about to judge a pair that is invalid, before an operation's last position. -/
def judging : State :=
  { ready with busy := true, s1 := true, s2 := true, plan := [.act .judge, .act .finishRead], seq.top := .read }

theorem witness_StepKeepsTheRanges : ∃ t, InRange judging ∧ step judging = .next t ∧ t.lerr = true :=
  ⟨_, by unfold InRange; decide, rfl, rfl⟩
/-- A busy block and an idle one. -/
theorem witness_StepKeepsOwnership : (∃ t, Owned judging ∧ step judging = .next t ∧ t.lerr = true) ∧
    ∃ t, Owned ready ∧ step ready = .next t :=
  ⟨⟨_, ⟨nofun, fun _ => ⟨[.act .judge], .act .finishRead, rfl, rfl, rfl⟩⟩, rfl, rfl⟩,
    ⟨_, ⟨fun _ => ⟨rfl, rfl, rfl⟩, nofun⟩, rfl⟩⟩
/-- A block that judges an invalid pair, at PRES's latch, and at PRESENCE's completion. -/
theorem witness_ErrorsNeverChangeTheSlots : ∀ z : ZeroStep, z = .judge ∨ z = .latchPres ∨ z = .finishPresence →
    let s : State := { judging with plan := [.act z] }
    ∃ t, s.schedule = [] ∧ s.plan = .act z :: [] ∧ (∀ y, Micro.act z = .act y → y.decides = false) ∧ step s = .next t := by
  rintro z (rfl | rfl | rfl) <;> exact ⟨_, rfl, rfl, fun y h => by cases h; rfl, rfl⟩
/-- An attempt between its frames: LOCK = 1, F_WRITE next; and the pulse after it, LOCK = 0. -/
theorem witness_LockIsHeldExactlyInAttempts :
    let s : State := { ready with busy := true, lock := true, seq.top := .write,
                                  plan := [.op .fWrite, .op .fPoll, .act (.lock false), .act .writeDecide] }
    let p : State := { ready with busy := true, seq.top := .write, plan := [.op .spulse, .act .writeAttempt] }
    (∃ t, Owned s ∧ LockKept s ∧ step s = .next t ∧ s.running = some (.op .fWrite) ∧ isFrame .fWrite = true) ∧
    (∃ t, Owned p ∧ LockKept p ∧ step p = .next t ∧ p.running = some (.op .spulse) ∧ betweenAttempts .spulse = true) :=
  ⟨⟨_, ⟨nofun, fun _ => ⟨[.op .fWrite, .op .fPoll, .act (.lock false)], .act .writeDecide, rfl, rfl, rfl⟩⟩, rfl, rfl, rfl, rfl⟩,
    ⟨_, ⟨nofun, fun _ => ⟨[.op .spulse], .act .writeAttempt, rfl, rfl, rfl⟩⟩, rfl, rfl, rfl, rfl⟩⟩
/-- LOCK is set, and cleared, where its positions stand; a completion clears it too. -/
theorem witness_LockChangesAtItsPositions :
    (∃ t, step { judging with plan := [.act (.lock true), .act .finishRead] } = .next t ∧ t.lock ≠ judging.lock) ∧
    (∃ t, step { judging with lock := true, plan := [.act (.lock false)] } = .next t ∧ t.lock ≠ true) ∧
    (∃ t, step { judging with lock := true, plan := [.act .finishRead] } = .next t ∧ t.lock ≠ true) :=
  ⟨⟨_, rfl, by decide⟩, ⟨_, rfl, by decide⟩, ⟨_, rfl, by decide⟩⟩
theorem witness_ErrorFlagsAreSticky :
    let s : State := { judging with lerr := true, cerr := true, plan := [.op .linkreset, .act .finishRead] }
    ∃ t, step s = .next t ∧ (s.lerr = true ∧ t.lerr = false) ∧ (s.cerr = true ∧ t.cerr = false) :=
  ⟨_, rfl, ⟨rfl, rfl⟩, ⟨rfl, rfl⟩⟩
theorem witness_BlockNeverWritesTheCommandRegisters :
    ∃ t, step { ready with schedule := [.host (.writeLen 9#8)] } = .next t ∧ t.len ≠ ready.len := ⟨_, rfl, by decide⟩
theorem witness_OnlyReadsAndTheHostWriteBuf :
    ∃ t, step { ready with schedule := [.host (.writeBuf 0 9#8)] } = .next t ∧ t.buf ≠ ready.buf := ⟨_, rfl, by decide⟩
theorem witness_LineChangesOnlyInASlot :
    ∃ t, step { ready with plan := [.op (.slot .low)] } = .next t ∧ t.dir ≠ ready.dir ∧ t.lvl ≠ ready.lvl :=
  ⟨_, rfl, by decide, by decide⟩
theorem witness_ResultIsWrittenAtCompletion :
    ∃ t, step { judging with plan := [.act .finishRead], callOk := true } = .next t ∧ t.result ≠ judging.result :=
  ⟨_, rfl, by decide⟩
theorem witness_ParametersNeverChange : ∃ t, step { ready with plan := [.op (.slot .low)] } = .next t ∧ t.wire ≠ ready.wire :=
  ⟨_, rfl, by decide⟩

end Sys2Proof.Tests
end

/-! The family of `10_state.md`: what the operations on the link state do. -/

namespace Sys2Proof.Machine

open Sys2Proof

/-- R33: running LINKRESET is the state's own LinkReset; it neither refuses nor faults. -/
@[simp] theorem exec_linkreset (s : State) : exec .linkreset s = .next s.linkReset := rfl

/-- Settles O9: LINKRESET is `State.linkReset` (`exec_linkreset`), which writes R33's six elements and, being an update of
these six alone, leaves the rest. -/
theorem linkresetClearsTheLinkState : Obligations.LinkresetClearsTheLinkState := by
  unfold Obligations.LinkresetClearsTheLinkState
  intro s
  rw [exec_linkreset, State.linkReset]

end Sys2Proof.Machine

/-! The family of `40_bit_codec.md`: the line's primitives, and the transmitted and the received bit cell. -/

namespace Sys2Proof.Machine

open Sys2Proof

/-! ### Drive and Release -/

/-- R92: row DRIVE_HIGH is `Drive(1)`. -/
@[simp] theorem exec_driveHigh (s : State) : exec .driveHigh s = .next (s.driveTo true) := rfl

/-- R92: row DRIVE_LOW is `Drive(0)`. -/
@[simp] theorem exec_driveLow (s : State) : exec .driveLow s = .next (s.driveTo false) := rfl

/-- R93: row RELEASE is the state's own release of the line. -/
@[simp] theorem exec_release (s : State) : exec .release s = .next s.releaseLine := rfl

/-- Settles O6: Drive is `State.driveTo`, which updates LVL and DIR, and Release is `State.releaseLine`, which updates DIR
alone. -/
theorem driveAndReleaseSetTheLine : Obligations.DriveAndReleaseSetTheLine := by
  unfold Obligations.DriveAndReleaseSetTheLine
  intro s
  refine ⟨?_, ?_, ?_⟩
  · rw [exec_driveHigh, State.driveTo]
  · rw [exec_driveLow, State.driveTo]
  · rw [exec_release, State.releaseLine]

/-! ### Cells that an operation begins -/

/-- R96: TXBIT begins a transmitted cell. -/
@[simp] theorem exec_txbit (b : Bit) (s : State) : exec (.txbit b) s = .next (s.beginCell (txCell b)) := rfl

/-- R97: RXBIT begins a received cell. -/
@[simp] theorem exec_rxbit (s : State) : exec .rxbit s = .next (s.beginCell rxCell) := rfl

/-- Beginning a cell neither schedules a move nor stops the ticks. -/
theorem Ready.beginCell {s : State} (hr : Ready s) (cell : List Micro) : Ready (s.beginCell cell) := hr

/-- A transmitted cell begun in `s` runs to its end and leaves the rest of the plan. -/
theorem reaches_beginCell_txCell {s : State} (hr : Ready s) (b : Bit) :
    Reaches (s.beginCell (txCell b))
      { s with tickPending := false, dir := .output, lvl := b, seq.ph := 0, wire := s.wireAfter (txTrace b) } :=
  reaches_txCell (hr.beginCell (txCell b)) (s.beginCell_plan (txCell b))

/-! ### The environment does not see a cell begin -/

/-- The environment's answer and the beginning of a cell commute. -/
theorem State.answered_beginCell (s : State) (cell : List Micro) :
    (s.beginCell cell).answered = s.answered.beginCell cell := by
  unfold State.answered
  rw [State.beginCell_samples]
  cases s.samples <;> rfl

/-- Beginning a cell does not change the level the line presents. -/
@[simp] theorem State.lineLevel_beginCell (s : State) (cell : List Micro) :
    (s.beginCell cell).lineLevel = s.lineLevel := rfl

/-- Beginning a cell does not change the pair the environment presents next. -/
@[simp] theorem State.nextPair_beginCell (s : State) (cell : List Micro) :
    (s.beginCell cell).nextPair = s.nextPair := by
  simp only [State.nextPair, State.answered_beginCell, State.lineLevel_beginCell]

/-- The environment after `k` received cells is the same, whether or not a cell was begun before them. -/
theorem State.afterPairs_beginCell (k : Nat) (s : State) (cell : List Micro) :
    State.afterPairs k (s.beginCell cell) = (State.afterPairs k s).beginCell cell := by
  induction k generalizing s with
  | zero => rfl
  | succ k ih => simp only [State.afterPairs, State.answered_beginCell, ih]

/-! ### The judgement of a received pair -/

/-- A pair makes LERR stick exactly when it reads invalid. -/
theorem lerrAfter_judgePair (p : Config.Params) (lerr : Bool) (x : Level × Level) :
    lerrAfter lerr (judgePair p x.1 x.2) = (lerr || readsInvalid p x) := by
  rw [lerrAfter, judgePair_eq_outcomeOf, outcomeOf_invalid]

/-- R16: an outcome gives the data bit 1 exactly when it acknowledges, that is, when it is ONE. -/
theorem bitData_eq_acknowledged (r : BitRes) : bitData r = acknowledged r := by cases r <;> rfl

/-- The judged bit is 1 exactly for RX_ONE_PAIR. -/
theorem bitData_judgePair (p : Config.Params) (x : Level × Level) :
    bitData (judgePair p x.1 x.2) = decide (x = p.rxOnePair) := by
  rw [bitData_eq_acknowledged, judgePair_eq_outcomeOf, outcomeOf_one, readsOne, beq_eq_decide]

/-- A received cell begun in `s` runs to its end, leaves the rest of the plan and judges the environment's next pair. -/
theorem reaches_beginCell_rxCell {s : State} (hr : Ready s) :
    Reaches (s.beginCell rxCell)
      { s with tickPending := false, dir := .input, s1 := s.nextPair.1, s2 := s.nextPair.2, sampleOut := s.nextPair.2,
               bitres := judgePair s.params s.nextPair.1 s.nextPair.2,
               lerr := s.lerr || readsInvalid s.params s.nextPair,
               samples := (s.afterPairs 1).samples, free := (s.afterPairs 1).free,
               seq.ph := 0, wire := s.wireAfter (rxTrace s.nextPair) } := by
  have h := reaches_rxCell (hr.beginCell rxCell) (s.beginCell_plan rxCell)
  rw [State.nextPair_beginCell, State.afterPairs_beginCell, lerrAfter_judgePair] at h
  exact h

/-! ### TxBit and RxBit -/

/-- Settles O10: TXBIT begins a transmitted cell (`exec_txbit`) and the cell runs to its end (`reaches_beginCell_txCell`). -/
theorem txbitSendsItsSymbol : Obligations.TxbitSendsItsSymbol := by
  unfold Obligations.TxbitSendsItsSymbol
  intro s b hr
  exact ⟨_, exec_txbit b s, _, reaches_beginCell_txCell hr b, rfl, rfl⟩

/-- Settles O12: RXBIT begins a received cell (`exec_rxbit`), the cell runs to its end with the judgement of R97
(`reaches_beginCell_rxCell`), and the bit read from BITRES is 1 only for RX_ONE_PAIR (`bitData_judgePair`). -/
theorem rxbitJudgesItsPair : Obligations.RxbitJudgesItsPair := by
  unfold Obligations.RxbitJudgesItsPair
  intro s hr
  exact ⟨_, exec_rxbit s, _, reaches_beginCell_rxCell hr, rfl, rfl, bitData_judgePair s.params s.nextPair⟩

end Sys2Proof.Machine

/-! The family of `41_byte_framer.md`: the acknowledge exchange, and the transmitted and the received byte. A byte is proved by
induction on its data cells with the exchange at the end, because the exchange overwrites what each data cell leaves of the
line, the samples, CELL and PH (`State.afterAck_overwrites`); what is left to carry is TXB, or RXB and LERR. -/

namespace Sys2Proof.Machine

open Sys2Proof

/-! ### What the environment's answers depend on -/

/-- Two states whose environment answers every sample alike: the answers listed, and the free values after them (R94, log 7). -/
def SameAnswers (s t : State) : Prop := s.samples = t.samples ∧ s.free = t.free

/-- The level the line presents. -/
theorem SameAnswers.lineLevel {s t : State} (h : SameAnswers s t) : s.lineLevel = t.lineLevel := by
  obtain ⟨hs, hf⟩ := h
  rw [State.lineLevel, State.lineLevel, hs, hf]

/-- One answer later the two still answer alike. -/
theorem SameAnswers.answered {s t : State} (h : SameAnswers s t) : SameAnswers s.answered t.answered := by
  obtain ⟨hs, hf⟩ := h
  unfold State.answered SameAnswers
  rw [hs]
  cases t.samples with
  | nil => exact ⟨rfl, congrArg (· + 1) hf⟩
  | cons l ls => exact ⟨rfl, hf⟩

/-- The pair that the next received cell samples. -/
theorem SameAnswers.nextPair {s t : State} (h : SameAnswers s t) : s.nextPair = t.nextPair := by
  rw [State.nextPair, State.nextPair, h.lineLevel, h.answered.lineLevel]

/-- The pairs of `k` received cells. -/
theorem SameAnswers.nextPairs {s t : State} (h : SameAnswers s t) (k : Nat) : s.nextPairs k = t.nextPairs k := by
  induction k generalizing s t with
  | zero => rfl
  | succ k ih => rw [State.nextPairs, State.nextPairs, h.nextPair, ih h.answered.answered]

/-- After `k` received cells the two still answer alike. -/
theorem SameAnswers.afterPairs {s t : State} (h : SameAnswers s t) (k : Nat) :
    SameAnswers (s.afterPairs k) (t.afterPairs k) := by
  induction k generalizing s t with
  | zero => exact h
  | succ k ih => exact ih h.answered.answered

/-- There are `k` pairs in `k` received cells. -/
@[simp] theorem State.length_nextPairs (k : Nat) (s : State) : (s.nextPairs k).length = k := by
  induction k generalizing s with
  | zero => rfl
  | succ k ih => rw [State.nextPairs, List.length_cons, ih]

/-- A state reached is the same state under another name. -/
theorem Reaches.of_eq {s t u : State} (h : Reaches s t) (e : t = u) : Reaches s u := e ▸ h

/-- Slots taken one run after the other. -/
theorem State.wireAfter_append (s : State) (xs ys : List SlotRec) :
    s.wireAfter (xs ++ ys) = ys.reverse ++ s.wireAfter xs := by
  rw [State.wireAfter, State.wireAfter, List.reverse_append, List.append_assoc]

/-! ### One bit cell as a position of the plan -/

/-- What a received cell leaves (R97). -/
def State.afterRxbit (s : State) : State :=
  { s with tickPending := false, dir := .input, s1 := s.nextPair.1, s2 := s.nextPair.2, sampleOut := s.nextPair.2,
           bitres := outcomeOf s.params s.nextPair, lerr := s.lerr || readsInvalid s.params s.nextPair,
           samples := (s.afterPairs 1).samples, free := (s.afterPairs 1).free,
           seq.ph := 0, wire := s.wireAfter (rxTrace s.nextPair) }

/-- A received cell keeps CELL and does not see the rest of the plan. -/
theorem State.afterRxbit_withPlan (s : State) (c : Fin 10) (ms : List Micro) :
    { s with seq.cell := c, plan := ms }.afterRxbit = { s.afterRxbit with seq.cell := c, plan := ms } := by
  have same : SameAnswers { s with seq.cell := c, plan := ms } s := ⟨rfl, rfl⟩
  simp only [State.afterRxbit, same.nextPair, (same.afterPairs 1).1, (same.afterPairs 1).2]
  rfl

/-- RXBIT at the head of the plan. -/
theorem reaches_rxbit {s : State} {rest : List Micro} (hr : Ready s) (hp : s.plan = .op .rxbit :: rest) :
    Reaches s { s.afterRxbit with plan := rest } := by
  have same : SameAnswers { s with plan := rest } s := ⟨rfl, rfl⟩
  have h := reaches_beginCell_rxCell (s := { s with plan := rest }) hr
  rw [judgePair_eq_outcomeOf, same.nextPair, (same.afterPairs 1).1, (same.afterPairs 1).2] at h
  exact reaches_op hr.1 hp (by simp [waiting, hp]) (exec_rxbit _) h

/-- TXBIT at the head of the plan. -/
theorem reaches_txbit {s : State} {b : Bit} {rest : List Micro} (hr : Ready s) (hp : s.plan = .op (.txbit b) :: rest) :
    Reaches s { s with tickPending := false, dir := .output, lvl := b, seq.ph := 0,
                       wire := s.wireAfter (txTrace b), plan := rest } :=
  reaches_op hr.1 hp (by simp [waiting, hp]) (exec_txbit b _) (reaches_beginCell_txCell (s := { s with plan := rest }) hr b)

/-! ### The acknowledge exchange -/

/-- R65: the master acknowledge is cell 8, its bit MAKF's. -/
theorem exec_masterAck (makf : Bool) (s : State) :
    exec (if makf then .mak else .nomak) s =
      .next ({ s with seq.cell := 8 }.beginCell (txCell (makBitOf s.params makf))) := by
  cases makf <;> rfl

/-- What the master acknowledge leaves (R65). -/
def State.afterMasterAck (s : State) : State :=
  { s with tickPending := false, dir := .output, lvl := makBitOf s.params s.makf, seq.cell := 8, seq.ph := 0,
           wire := s.wireAfter (txTrace (makBitOf s.params s.makf)) }

/-- The master acknowledge at the head of the plan. -/
theorem reaches_masterAck {s : State} {rest : List Micro} (hr : Ready s)
    (hp : s.plan = .op (if s.makf then .mak else .nomak) :: rest) :
    Reaches s { s.afterMasterAck with plan := rest } :=
  reaches_op hr.1 hp (by cases h : s.makf <;> simp [waiting, hp, h]) (exec_masterAck s.makf _)
    (reaches_beginCell_txCell (s := { s with plan := rest, seq.cell := 8 }) hr _)

/-- After an acknowledge exchange that leaves its slave cell unsampled (R112, R117). -/
def State.afterUncheckedAck (s : State) (traceSoFar : List SlotRec) : State :=
  { s with tickPending := false, dir := .input, lvl := makBitOf s.params s.makf, cerr := s.cerr || s.lerr,
           seq.cell := 0, seq.ph := 0,
           wire := s.wireAfter (traceSoFar ++ txTrace (makBitOf s.params s.makf) ++ offTrace) }

/-- After an acknowledge exchange in either mode (R112). -/
def State.afterAckx (s : State) (check : Bool) (traceSoFar : List SlotRec) : State :=
  if check then s.afterAck traceSoFar else s.afterUncheckedAck traceSoFar

/-- What the slave cell and the end of the byte frame leave (R112). -/
def State.afterSlaveCell (s : State) (check : Bool) : State :=
  if check then
    { s.afterRxbit with
      cerr := s.cerr || !readsOne s.params s.nextPair || (s.lerr || readsInvalid s.params s.nextPair), seq.cell := 0 }
  else
    { s with tickPending := false, dir := .input, cerr := s.cerr || s.lerr, seq.cell := 0, seq.ph := 0,
             wire := s.wireAfter offTrace }

/-- The escalation and the end of the byte frame at the head of the plan (R113). -/
theorem reaches_escalate {s : State} {rest : List Micro} (hr : Ready s)
    (hp : s.plan = .act .escalate :: .act (.cell 0) :: rest) :
    Reaches s { s with cerr := s.cerr || s.lerr, seq.cell := 0, plan := rest } :=
  reaches_act hr.1 hp rfl (reaches_act hr.1 rfl rfl (Reaches.refl _))

/-- The checked slave cell at the head of the plan (R114). -/
theorem reaches_checkedCell {s : State} {rest : List Micro} (hr : Ready s)
    (hp : s.plan = .op .rxbit :: .act .slaveCheck :: rest) :
    Reaches s { s.afterRxbit with cerr := s.cerr || !readsOne s.params s.nextPair, plan := rest } := by
  rw [← outcomeOf_one]
  exact (reaches_rxbit hr hp).trans (reaches_act hr.1 rfl rfl (Reaches.refl _))

/-- Cell 9 is left to the slave, checked or unsampled, and the errors so far are escalated. -/
theorem reaches_slaveCell {s : State} {check : Bool} {rest : List Micro} (hr : Ready s)
    (hp : s.plan = slaveCell check ++ .act .escalate :: .act (.cell 0) :: rest) :
    Reaches s { s.afterSlaveCell check with plan := rest } := by
  cases check with
  | true => exact (reaches_checkedCell hr hp).trans (reaches_escalate hr rfl)
  | false => exact (reaches_unsampledCell hr hp).trans (reaches_escalate hr rfl)

/-- AckX is its master acknowledge and then its slave cell, in either mode. -/
theorem State.afterSlaveCell_afterMasterAck (s : State) (check : Bool) :
    s.afterMasterAck.afterSlaveCell check = s.afterAckx check [] := by
  cases check with
  | true =>
    have same : SameAnswers s.afterMasterAck s := ⟨rfl, rfl⟩
    simp only [State.afterSlaveCell, State.afterRxbit, State.afterAckx, State.afterAck, if_true, same.nextPair,
      (same.afterPairs 1).1, (same.afterPairs 1).2, List.nil_append, s.wireAfter_append]
    rfl
  | false =>
    simp only [State.afterSlaveCell, State.afterAckx, State.afterUncheckedAck, List.nil_append, s.wireAfter_append]
    rfl

/-- The slave cell and the end of the byte frame set CELL and see none of the plan. -/
theorem State.afterSlaveCell_withPlan (s : State) (c : Fin 10) (ms : List Micro) (check : Bool) :
    { s with seq.cell := c, plan := ms }.afterSlaveCell check = { s.afterSlaveCell check with plan := ms } := by
  cases check with
  | true =>
    have same : SameAnswers { s with seq.cell := c, plan := ms } s := ⟨rfl, rfl⟩
    simp only [State.afterSlaveCell, State.afterRxbit_withPlan, if_true, same.nextPair]
  | false => rfl

/-- The acknowledge exchange at the head of the plan: master acknowledge, slave cell, escalation. -/
theorem reaches_ackPlan {s : State} {check : Bool} {rest : List Micro} (hr : Ready s)
    (hp : s.plan = ackPlan s.makf check ++ rest) :
    Reaches s { s.afterAckx check [] with plan := rest } := by
  rw [ackPlan, List.append_assoc, List.append_assoc] at hp
  refine (reaches_masterAck hr hp).trans ?_
  refine reaches_act hr.1 rfl rfl ?_
  have h := reaches_slaveCell (s := { s.afterMasterAck with
    seq.cell := 9, plan := slaveCell check ++ .act .escalate :: .act (.cell 0) :: rest }) hr rfl
  rw [State.afterSlaveCell_withPlan, State.afterSlaveCell_afterMasterAck] at h
  exact h

/-- The exchange leaves the rest of the plan. -/
@[simp] theorem State.afterAckx_plan (s : State) (check : Bool) (xs : List SlotRec) :
    (s.afterAckx check xs).plan = s.plan := by cases check <;> rfl

/-- The checked exchange overwrites all that the cells before it leave of the line, of the samples and of CELL and PH. -/
theorem State.afterAck_overwrites (s : State) (tick : Bool) (dir : Dir) (lvl a b so : Level) (r : BitRes) (c : Fin 10)
    (ph : Fin 4) (ms rest : List Micro) (xs ys : List SlotRec) :
    { { s with tickPending := tick, dir := dir, lvl := lvl, s1 := a, s2 := b, sampleOut := so, bitres := r, seq.cell := c,
               seq.ph := ph, wire := s.wireAfter xs, plan := ms }.afterAck ys with plan := rest } =
      { s.afterAck (xs ++ ys) with plan := rest } := by
  have same : SameAnswers
    { s with tickPending := tick, dir := dir, lvl := lvl, s1 := a, s2 := b, sampleOut := so, bitres := r, seq.cell := c,
             seq.ph := ph, wire := s.wireAfter xs, plan := ms } s := ⟨rfl, rfl⟩
  simp only [State.afterAck, same.nextPair, (same.afterPairs 1).1, (same.afterPairs 1).2, List.append_assoc,
    s.wireAfter_append xs]
  rfl

/-- The exchange of either mode overwrites what a transmitted cell before it leaves of the line and of CELL and PH. -/
theorem State.afterAckx_overwrites (s : State) (check tick : Bool) (dir : Dir) (lvl : Level) (c : Fin 10) (ph : Fin 4)
    (ms rest : List Micro) (xs ys : List SlotRec) :
    { { s with tickPending := tick, dir := dir, lvl := lvl, seq.cell := c, seq.ph := ph, wire := s.wireAfter xs,
               plan := ms }.afterAckx check ys with plan := rest } =
      { s.afterAckx check (xs ++ ys) with plan := rest } := by
  cases check with
  | true => exact s.afterAck_overwrites tick dir lvl s.s1 s.s2 s.sampleOut s.bitres c ph ms rest xs ys
  | false =>
    simp only [State.afterAckx, State.afterUncheckedAck, List.append_assoc, s.wireAfter_append xs]
    rfl

/-- The exchange does not see the rest of the plan. -/
theorem State.afterAckx_withPlan (s : State) (check : Bool) (ms rest : List Micro) (xs : List SlotRec) :
    { { s with plan := ms }.afterAckx check xs with plan := rest } = { s.afterAckx check xs with plan := rest } :=
  s.afterAckx_overwrites check s.tickPending s.dir s.lvl s.seq.cell s.seq.ph ms rest [] xs

/-- The exchange leaves the plan as it was before its positions were put in front. -/
theorem State.afterAckx_restoresPlan (s : State) (check : Bool) (ms : List Micro) (xs : List SlotRec) :
    { { s with plan := ms }.afterAckx check xs with plan := s.plan } = s.afterAckx check xs := by
  rw [State.afterAckx_withPlan, ← s.afterAckx_plan check xs]

/-- R112: ACKX plans the exchange, its master acknowledge as MAKF is. -/
@[simp] theorem exec_ackx (check : Bool) (s : State) : exec (.ackx check) s = .next (s.push (ackPlan s.makf check)) := rfl

/-- ACKX at the head of the plan. -/
theorem reaches_ackx {s : State} {check : Bool} {rest : List Micro} (hr : Ready s)
    (hp : s.plan = .op (.ackx check) :: rest) :
    Reaches s { s.afterAckx check [] with plan := rest } := by
  have h := reaches_ackPlan (s := { s with plan := ackPlan s.makf check ++ rest }) hr rfl
  exact reaches_op hr.1 hp (by simp [waiting, hp]) (exec_ackx check _) (h.of_eq (s.afterAckx_withPlan ..))

/-- Settles O16: ACKX plans the exchange and the exchange runs to its end (`reaches_ackPlan`), in both modes. -/
theorem ackxExchangesAcknowledges : Obligations.AckxExchangesAcknowledges := by
  unfold Obligations.AckxExchangesAcknowledges
  intro s hr
  have completes (check : Bool) : Completes (.ackx check) s fun u => u = s.afterAckx check [] := by
    refine ⟨_, exec_ackx check s, _, ?_, s.afterAckx_plan check [], rfl⟩
    exact (reaches_ackPlan (s := s.push (ackPlan s.makf check)) hr rfl).of_eq (s.afterAckx_restoresPlan ..)
  exact ⟨completes true, completes false⟩

/-! ### The transmitted byte -/

/-- The first `k` bits that leave TXB, the most significant first (R110). -/
def topBits : Nat → Byte → List Bit
  | 0, _ => []
  | k + 1, v => topBit v :: topBits k (shiftOut v)

/-- R110: eight shifts take out all bits of the byte, bit 7 first. -/
theorem topBits_eight (v : Byte) : topBits 8 v = bitsOf v := by
  simp [topBits, bitsOf, topBit, shiftOut, BitVec.msb_eq_getLsbD_last]

/-- R83: after eight shifts nothing of the byte is left in TXB. -/
theorem shiftOut_iterate_eight (v : Byte) : shiftOut^[8] v = 0#8 := by
  simp [shiftOut, ← BitVec.shiftLeft_add]

/-- A data cell of a transmitted byte at the head of the plan. -/
theorem reaches_txDataCell {s : State} {c : Fin 10} {rest : List Micro} (hr : Ready s)
    (hp : s.plan = txDataCell c ++ rest) :
    Reaches s { s with txb := shiftOut s.txb, tickPending := false, dir := .output, lvl := topBit s.txb, seq.cell := c,
                       seq.ph := 0, wire := s.wireAfter (txTrace (topBit s.txb)), plan := rest } := by
  refine reaches_act hr.1 hp rfl ?_
  refine reaches_act hr.1 rfl rfl ?_
  refine Reaches.trans (reaches_txbit hr rfl) ?_
  refine reaches_act hr.1 rfl rfl ?_
  exact Reaches.refl _

/-- Data cells and the acknowledge exchange at the head of the plan: TXB is shifted once per cell and its top bits are sent. -/
theorem reaches_txDataCells_ackx {s : State} {cells : List (Fin 10)} {check : Bool} {rest : List Micro} (hr : Ready s)
    (hp : s.plan = cells.flatMap txDataCell ++ .op (.ackx check) :: rest) :
    Reaches s { { s with txb := shiftOut^[cells.length] s.txb }.afterAckx check
      ((topBits cells.length s.txb).flatMap txTrace) with plan := rest } := by
  induction cells generalizing s with
  | nil => exact reaches_ackx hr hp
  | cons c cells ih =>
    rw [List.flatMap_cons, List.append_assoc] at hp
    refine (reaches_txDataCell hr hp).trans ?_
    rw [List.length_cons, topBits, List.flatMap_cons]
    refine Reaches.of_eq (ih hr rfl) ?_
    exact State.afterAckx_overwrites { s with txb := shiftOut^[cells.length] (shiftOut s.txb) } check false .output
      (topBit s.txb) c 0 _ rest (txTrace (topBit s.txb)) _

/-- A byte frame sent, in either mode: TXB is empty, its bits are on the wire and the acknowledges are exchanged. -/
theorem reaches_sendByte {s : State} (hr : Ready s) (v : Byte) (check : Bool) :
    Reaches (s.sendByte v check) ({ s with txb := 0#8 }.afterAckx check ((bitsOf v).flatMap txTrace)) := by
  have h := reaches_txDataCells_ackx (s := s.sendByte v check) (cells := [0, 1, 2, 3, 4, 5, 6, 7]) hr rfl
  rw [← topBits_eight, ← shiftOut_iterate_eight v]
  exact h.of_eq ({ s with txb := shiftOut^[8] v }.afterAckx_restoresPlan ..)

/-- R110: TXBYTE is a checked byte frame. -/
@[simp] theorem exec_txbyte (v : Byte) (s : State) : exec (.txbyte v) s = .next (s.sendByte v true) := rfl

/-- R117: the synchronization byte is an unchecked byte frame with MAK. -/
@[simp] theorem exec_txbyteSync (s : State) :
    exec .txbyteSync s = .next ({ s with makf := true }.sendByte Config.SYNC_BYTE false) := rfl

/-- Settles O17: both rows begin a byte frame, which sends the bits of its byte and exchanges the acknowledges
(`reaches_sendByte`). -/
theorem txbyteSendsMostSignificantFirst : Obligations.TxbyteSendsMostSignificantFirst := by
  unfold Obligations.TxbyteSendsMostSignificantFirst
  intro s hr
  constructor
  · intro v
    exact ⟨_, exec_txbyte v s, _, reaches_sendByte hr v true, rfl, rfl⟩
  · exact ⟨_, exec_txbyteSync s, _, reaches_sendByte (s := { s with makf := true }) hr Config.SYNC_BYTE false, rfl, rfl⟩

/-! ### The received byte -/

/-- The byte in RXB after the pairs `xs` have been received one after the other (R111). -/
def shiftInPairs (p : Config.Params) (v : Byte) (xs : List (Level × Level)) : Byte :=
  xs.foldl (fun v x => shiftIn v (readsOne p x)) v

/-- R83: shifting a bit in doubles the byte and adds the bit. -/
theorem shiftIn_ofNat (a : Nat) (d : Bit) : shiftIn (BitVec.ofNat 8 a) d = BitVec.ofNat 8 (2 * a + d.toNat) := by
  have bit : (if d then 1#8 else 0#8).toNat = d.toNat % 2 ^ 8 := by cases d <;> rfl
  apply BitVec.eq_of_toNat_eq
  rw [shiftIn, BitVec.toNat_or, BitVec.toNat_shiftLeft, bit, ← Nat.or_mod_two_pow,
    ← Nat.shiftLeft_add_eq_or_of_lt d.toNat_lt, Nat.shiftLeft_eq, BitVec.toNat_ofNat, BitVec.toNat_ofNat]
  omega

/-- The number whose binary digits are those of `a` and then one for each pair; `byteOfPairs` is this from 0, as a byte. -/
def digitsOfPairs (p : Config.Params) (a : Nat) (xs : List (Level × Level)) : Nat :=
  xs.foldl (fun a x => 2 * a + (readsOne p x).toNat) a

/-- The digits of the pairs come after those of what was there. -/
theorem digitsOfPairs_eq_add (p : Config.Params) (a : Nat) (xs : List (Level × Level)) :
    digitsOfPairs p a xs = 2 ^ xs.length * a + digitsOfPairs p 0 xs := by
  induction xs generalizing a with
  | nil => simp [digitsOfPairs]
  | cons x xs ih =>
    have cons (b : Nat) : digitsOfPairs p b (x :: xs) = digitsOfPairs p (2 * b + (readsOne p x).toNat) xs := rfl
    rw [cons, cons, ih, ih (2 * 0 + _), List.length_cons, pow_succ]
    ring

/-- Shifting pairs in is writing their digits, in a byte. -/
theorem shiftInPairs_ofNat (p : Config.Params) (a : Nat) (xs : List (Level × Level)) :
    shiftInPairs p (BitVec.ofNat 8 a) xs = BitVec.ofNat 8 (digitsOfPairs p a xs) := by
  induction xs generalizing a with
  | nil => rfl
  | cons x xs ih =>
    rw [digitsOfPairs, List.foldl_cons, ← digitsOfPairs, ← ih, ← shiftIn_ofNat]
    rfl

/-- R111: eight pairs push out every bit of the old RXB. -/
theorem shiftInPairs_eight (p : Config.Params) (v : Byte) (xs : List (Level × Level)) (h : xs.length = 8) :
    shiftInPairs p v xs = byteOfPairs p xs := by
  have out (n : Nat) : BitVec.ofNat 8 (2 ^ 8 * v.toNat + n) = BitVec.ofNat 8 n := by
    apply BitVec.eq_of_toNat_eq
    simp
  calc shiftInPairs p v xs = shiftInPairs p (BitVec.ofNat 8 v.toNat) xs := by rw [BitVec.ofNat_toNat, BitVec.setWidth_eq]
    _ = byteOfPairs p xs := by rw [shiftInPairs_ofNat, digitsOfPairs_eq_add, h, out, digitsOfPairs, byteOfPairs]

/-- What `k` received data cells leave that the acknowledge exchange does not overwrite (R111). -/
def State.afterRxCells (s : State) (k : Nat) : State :=
  { s with rxb := shiftInPairs s.params s.rxb (s.nextPairs k),
           lerr := s.lerr || (s.nextPairs k).any (readsInvalid s.params),
           samples := (s.afterPairs k).samples, free := (s.afterPairs k).free }

/-- After `k` received data cells and a checked acknowledge exchange. -/
def State.afterRxFrame (s : State) (k : Nat) : State :=
  (s.afterRxCells k).afterAck ((s.nextPairs k).flatMap rxTrace)

/-- Eight cells and the exchange leave what R111 says of a received byte. -/
theorem State.afterRxFrame_eight (s : State) : s.afterRxFrame 8 = s.afterRxByte := by
  rw [State.afterRxFrame, State.afterRxCells, shiftInPairs_eight _ _ _ (s.length_nextPairs 8)]
  rfl

/-- What one received data cell leaves: its bit is shifted into RXB, whether its pair was valid or not (R111). -/
def State.afterRxDataCell (s : State) (c : Fin 10) : State :=
  { s.afterRxbit with rxb := shiftIn s.rxb (readsOne s.params s.nextPair), seq.cell := c }

/-- A data cell of a received byte at the head of the plan. -/
theorem reaches_rxDataCell {s : State} {c : Fin 10} {rest : List Micro} (hr : Ready s)
    (hp : s.plan = rxDataCell c ++ rest) :
    Reaches s { s.afterRxDataCell c with plan := rest } := by
  have h := reaches_rxbit (s := { s with seq.cell := c, plan := .op .rxbit :: .act .rxShift :: rest }) hr rfl
  rw [State.afterRxbit_withPlan] at h
  rw [State.afterRxDataCell, ← outcomeOf_one, ← bitData_eq_acknowledged]
  exact reaches_act hr.1 hp rfl (h.trans (reaches_act hr.1 rfl rfl (Reaches.refl _)))

/-- A data cell before `k` others is one more of them: the exchange overwrites all else it leaves. -/
theorem State.afterRxFrame_afterRxDataCell (s : State) (k : Nat) (c : Fin 10) (ms rest : List Micro) :
    { { s.afterRxDataCell c with plan := ms }.afterRxFrame k with plan := rest } =
      { s.afterRxFrame (k + 1) with plan := rest } := by
  have same : SameAnswers { s.afterRxDataCell c with plan := ms } s.answered.answered := ⟨rfl, rfl⟩
  refine Eq.trans ?_ ((s.afterRxCells (k + 1)).afterAck_overwrites false .input s.lvl s.nextPair.1 s.nextPair.2
    s.nextPair.2 (outcomeOf s.params s.nextPair) c 0 ms rest (rxTrace s.nextPair) _)
  rw [State.afterRxFrame, State.afterRxCells, State.afterRxCells, same.nextPairs, (same.afterPairs k).1,
    (same.afterPairs k).2, State.nextPairs, List.any_cons, ← Bool.or_assoc]
  rfl

/-- Data cells and the acknowledge exchange at the head of the plan. -/
theorem reaches_rxDataCells_ackx {s : State} {cells : List (Fin 10)} {rest : List Micro} (hr : Ready s)
    (hp : s.plan = cells.flatMap rxDataCell ++ .op (.ackx true) :: rest) :
    Reaches s { s.afterRxFrame cells.length with plan := rest } := by
  induction cells generalizing s with
  | nil =>
    refine (reaches_ackx hr hp).of_eq ?_
    simp [State.afterRxFrame, State.afterRxCells, State.nextPairs, State.afterPairs, shiftInPairs, State.afterAckx]
  | cons c cells ih =>
    rw [List.flatMap_cons, List.append_assoc] at hp
    refine (reaches_rxDataCell hr hp).trans ?_
    exact Reaches.of_eq (ih hr rfl) (s.afterRxFrame_afterRxDataCell ..)

/-- R111: RXBYTE plans eight data cells and a checked exchange. -/
@[simp] theorem exec_rxbyte (s : State) : exec .rxbyte s = .next (s.push (rxDataCells ++ [.op (.ackx true)])) := rfl

/-- A received byte frame runs to its end. -/
theorem reaches_receiveByte {s : State} (hr : Ready s) :
    Reaches (s.push (rxDataCells ++ [.op (.ackx true)])) s.afterRxByte := by
  have h := reaches_rxDataCells_ackx (s := s.push (rxDataCells ++ [.op (.ackx true)])) (cells := [0, 1, 2, 3, 4, 5, 6, 7])
    hr rfl
  have same : SameAnswers (s.push (rxDataCells ++ [.op (.ackx true)])) s := ⟨rfl, rfl⟩
  rw [State.afterRxFrame, State.afterRxCells, same.nextPairs, (same.afterPairs _).1, (same.afterPairs _).2] at h
  rw [← State.afterRxFrame_eight]
  exact h.of_eq ((s.afterRxCells 8).afterAckx_restoresPlan true _ _)

/-- Settles O20: RXBYTE plans eight data cells and the exchange (`exec_rxbyte`), which leave the byte of the eight pairs and
nothing of the old RXB (`reaches_receiveByte`, `shiftInPairs_eight`). -/
theorem rxbyteAssemblesTheByte : Obligations.RxbyteAssemblesTheByte := by
  unfold Obligations.RxbyteAssemblesTheByte
  intro s hr
  exact ⟨_, exec_rxbyte s, _, reaches_receiveByte hr, rfl, rfl⟩

end Sys2Proof.Machine

/-! The family of `42_frame_builder.md`: the preamble, the addressed header, the idle drive, the pulse, and the frames made of
them. The rule of a position of the plan says what it leaves of a state `s`, whatever plan `s` had: so the rules compose without
a word about the plan. -/

namespace Sys2Proof.Machine

open Sys2Proof

/-! ### The intervals that hold the line, the idle drive and the pulse -/

/-- An interval on the wire, the newest slot first: its driving slot and then the slots without action. -/
theorem State.wireAfter_hold (s : State) (r : SlotRec) (n : Nat) :
    s.wireAfter (r :: List.replicate n .idle) = List.replicate n .idle ++ r :: s.wire := by
  simp [State.wireAfter]

/-- The mark of a driving slot in the slot trace. -/
def driveRec (l : Level) : SlotRec := if l then .high else .low

/-- A driving slot sets the line and marks the trace (R91, R92). -/
theorem slotAction_driveAct (l : Level) (s : State) :
    slotAction (driveAct l) s = .next ((s.driveTo l).record (driveRec l)) := by
  cases l <;> rfl

/-- What an interval of `n` ticks at a level leaves (R130); its first slot is taken for every `n` (log 29). -/
def State.afterInterval (s : State) (f : FrameStep) (n : Nat) (l : Level) : State :=
  { s with tickPending := false, dir := .output, lvl := l, seq.fst := f, seq.wait := 0,
           wire := s.wireAfter (driveRec l :: List.replicate (n - 1) .idle) }

/-- An interval of the preamble at the head of the plan. -/
theorem reaches_interval {s : State} (hr : Ready s) (f : FrameStep) (n : Nat) (l : Level) (rest : List Micro) :
    Reaches { s with plan := .act (.frameStep f) :: .act (.setWait n) :: .op (.slot (driveAct l)) :: .act .waitDown ::
                       .act .hold :: rest }
      { s.afterInterval f n l with plan := rest } := by
  rw [State.afterInterval, State.wireAfter_hold]
  refine reaches_act hr.1 rfl rfl ?_
  refine reaches_act hr.1 rfl rfl ?_
  refine reaches_slot hr rfl (slotAction_driveAct l _) ?_
  refine reaches_act hr.1 rfl rfl ?_
  exact reaches_hold hr rfl rfl

/-- R131: FEND plans the idle drive. -/
@[simp] theorem exec_fend (s : State) : exec .fend s = .next ({ s with seq.fst := .endStep }.push endPlan) := rfl

/-- What the idle drive leaves (R131, R139). -/
def State.afterEnd (s : State) : State :=
  { s with tickPending := false, dir := .output, lvl := true, seq.fst := .idle, seq.frame := .none, wire := .high :: s.wire }

/-- The idle drive's two positions at the head of the plan. -/
theorem reaches_endPlan {s : State} (hr : Ready s) (f : FrameStep) (rest : List Micro) :
    Reaches { s with seq.fst := f, plan := endPlan ++ rest } { s.afterEnd with plan := rest } := by
  refine reaches_slot hr rfl rfl ?_
  refine reaches_act hr.1 rfl rfl ?_
  exact Reaches.refl _

/-- FEND at the head of the plan. -/
theorem reaches_fend {s : State} (hr : Ready s) (rest : List Micro) :
    Reaches { s with plan := .op .fend :: rest } { s.afterEnd with plan := rest } :=
  reaches_op hr.1 rfl rfl (exec_fend _) (reaches_endPlan hr .endStep rest)

/-- Settles O22: FEND plans the idle drive (`exec_fend`), which runs to its end (`reaches_endPlan`). -/
theorem fendDrivesIdle : Obligations.FendDrivesIdle := by
  unfold Obligations.FendDrivesIdle
  intro s hr
  exact ⟨_, exec_fend s, _, reaches_endPlan hr .endStep s.plan, rfl, rfl⟩

/-- R132: SPULSE begins a pulse. -/
@[simp] theorem exec_spulse (s : State) :
    exec .spulse s = .next ({ s with seq.fst := .pulse }.beginFrame .spulse (pulsePlan s.params)) := rfl

/-- What a pulse leaves (R132, R139). -/
def State.afterPulse (s : State) : State :=
  { s with tickPending := false, dir := .output, lvl := true, seq.fst := .idle, seq.frame := .none, seq.wait := 0,
           wire := s.wireAfter (pulseTrace s.params) }

/-- A pulse's positions at the head of the plan. -/
theorem reaches_pulsePlan {s : State} (hr : Ready s) (rest : List Micro) :
    Reaches { s with plan := pulsePlan s.params ++ rest } { s.afterPulse with plan := rest } := by
  rw [State.afterPulse, pulseTrace, State.wireAfter_hold]
  refine reaches_slot hr rfl rfl ?_
  refine reaches_act hr.1 rfl rfl ?_
  refine Reaches.trans (reaches_hold hr rfl rfl) ?_
  refine reaches_act hr.1 rfl rfl ?_
  exact Reaches.refl _

/-- Settles O23: SPULSE begins a pulse (`exec_spulse`), which holds the line to its end (`reaches_pulsePlan`). -/
theorem spulseHoldsHigh : Obligations.SpulseHoldsHigh := by
  unfold Obligations.SpulseHoldsHigh
  intro s hr
  have pulse := reaches_pulsePlan (s := { s with seq.fst := .pulse, seq.frame := .spulse }) hr s.plan
  exact ⟨_, exec_spulse s, _, pulse, rfl, rfl⟩

/-! ### The preamble -/

/-- The synchronization byte's position at the head of the plan (R117, R139). -/
theorem reaches_syncByte {s : State} (hr : Ready s) (rest : List Micro) :
    Reaches { s with plan := .op .syncByte :: rest } { { s with seq.fst := .sync }.afterSync with plan := rest } :=
  reaches_op hr.1 rfl rfl rfl
    (reaches_sendByte (s := { s with makf := true, seq.fst := .sync, plan := rest }) hr Config.SYNC_BYTE false)

/-- R130: FSTART plans the preamble. -/
@[simp] theorem exec_fstart (s : State) : exec .fstart s = .next (s.push (startPlan s.params)) := rfl

/-- What the preamble leaves (R130). -/
def State.afterStart (s : State) : State :=
  { s with tickPending := false, txb := 0#8, makf := true, dir := .input, lvl := s.params.makBit,
           cerr := s.cerr || s.lerr, seq.fst := .sync, seq.wait := 0, seq.cell := 0, seq.ph := 0,
           wire := s.wireAfter (startTrace s.params) }

/-- The preamble is the quiet interval, the low hold and the synchronization byte, one after the other. -/
theorem State.afterStart_eq (s : State) :
    { (s.afterInterval .quiet s.params.quietTicks true).afterInterval .lowhold s.params.hdrLowTicks false with
      seq.fst := .sync }.afterSync = s.afterStart := by
  rw [State.afterStart, startTrace, State.wireAfter_append, State.wireAfter_append]
  rfl

/-- The preamble's positions at the head of the plan. -/
theorem reaches_startPlan {s : State} (hr : Ready s) (rest : List Micro) :
    Reaches { s with plan := startPlan s.params ++ rest } { s.afterStart with plan := rest } := by
  rw [← s.afterStart_eq]
  refine Reaches.trans (reaches_interval hr .quiet s.params.quietTicks true _) ?_
  refine Reaches.trans (reaches_interval (s := s.afterInterval ..) hr .lowhold s.params.hdrLowTicks false _) ?_
  exact reaches_syncByte (s := (s.afterInterval ..).afterInterval ..) hr rest

/-- FSTART at the head of the plan. -/
theorem reaches_fstart {s : State} (hr : Ready s) (rest : List Micro) :
    Reaches { s with plan := .op .fstart :: rest } { s.afterStart with plan := rest } :=
  reaches_op hr.1 rfl rfl (exec_fstart _) (reaches_startPlan hr rest)

/-- Settles O21: FSTART plans the preamble (`exec_fstart`), which runs to its end (`reaches_startPlan`). -/
theorem fstartIsThePreamble : Obligations.FstartIsThePreamble := by
  unfold Obligations.FstartIsThePreamble
  intro s hr _
  exact ⟨_, exec_fstart s, _, reaches_startPlan hr s.plan, rfl, rfl⟩

/-! ### The addressed header -/

/-- What a byte sent at a step of a frame leaves (R116, R139). -/
def State.afterSent (s : State) (f : FrameStep) (mak : Bool) (v : Byte) : State :=
  { s with makf := mak, seq.fst := f }.afterTxByte v

/-- A byte frame sent does not see the rest of the plan. -/
theorem State.afterSent_withPlan (s : State) (ms : List Micro) (f : FrameStep) (mak : Bool) (v : Byte) :
    { s with plan := ms }.afterSent f mak v = { s.afterSent f mak v with plan := ms } :=
  { s with makf := mak, seq.fst := f, txb := 0#8 }.afterAckx_withPlan true ms ms _

/-- A byte at its fixed position in a frame, as an instruction at the head of the plan (R74, R77). -/
theorem reaches_fixedByte {s : State} {i : Instr} {f : FrameStep} {mak : Bool} {v : Byte} (hr : Ready s)
    (hi : ∀ t, exec i t = .next (t.sendFixed f mak v true))
    (hw : ∀ (t : State) ms, waiting { t with plan := .op i :: ms } = false) (rest : List Micro) :
    Reaches { s with plan := .op i :: rest } { s.afterSent f mak v with plan := rest } := by
  rw [← State.afterSent_withPlan]
  exact reaches_op hr.1 rfl (hw s rest) (hi _)
    (reaches_sendByte (s := { s with makf := mak, seq.fst := f, plan := rest }) hr v true)

/-- A byte of the header that is no fixed one, at the head of the plan (R135). -/
theorem reaches_headerByte {s : State} (hr : Ready s) (f : FrameStep) (mak : Bool) (v : Byte) (rest : List Micro) :
    Reaches { s with plan := .act (.frameStep f) :: .act (.makf mak) :: .op (.txbyte v) :: rest }
      { s.afterSent f mak v with plan := rest } := by
  rw [← State.afterSent_withPlan]
  refine reaches_act hr.1 rfl rfl ?_
  refine reaches_act hr.1 rfl rfl ?_
  exact reaches_op hr.1 rfl rfl (exec_txbyte v _)
    (reaches_sendByte (s := { s with makf := mak, seq.fst := f, plan := rest }) hr v true)

/-- R74, R77: row DEVICE_ADDRESS. -/
@[simp] theorem exec_deviceAddress (s : State) :
    exec .deviceAddress s = .next (s.sendFixed .devaddr true Config.DEVICE_ADDRESS true) := rfl

/-- R74, R77: row CMD_RDSR. -/
@[simp] theorem exec_cmdRdsr (s : State) : exec .cmdRdsr s = .next (s.sendFixed .command true Config.CMD_RDSR true) := rfl

/-- The device address byte at the head of the plan. -/
theorem reaches_deviceAddress {s : State} (hr : Ready s) (rest : List Micro) :
    Reaches { s with plan := .op .deviceAddress :: rest } { s.afterSent .devaddr true 0xA0#8 with plan := rest } :=
  reaches_fixedByte hr exec_deviceAddress (fun _ _ => rfl) rest

/-- R135: ADDRESSED plans its header. -/
@[simp] theorem exec_addressed (c : Byte) (mc withAddr : Bool) (s : State) :
    exec (.addressed c mc withAddr) s = .next (s.push (addressedPlan s.addr c mc withAddr)) := rfl

/-- What the device address byte and the command byte leave (R135). -/
def State.afterCommand (s : State) (c : Byte) (mc : Bool) : State :=
  (s.afterSent .devaddr true 0xA0#8).afterSent .command mc c

/-- What the whole header leaves (R135). -/
def State.afterAddressed (s : State) (c : Byte) (mc : Bool) : Bool → State
  | false => s.afterCommand c mc
  | true => ((s.afterCommand c mc).afterSent .addrh true (addrHigh s.addr)).afterSent .addrl true (addrLow s.addr)

/-- The header's positions at the head of the plan. -/
theorem reaches_addressedPlan {s : State} (hr : Ready s) (c : Byte) (mc withAddr : Bool) (rest : List Micro) :
    Reaches { s with plan := addressedPlan s.addr c mc withAddr ++ rest }
      { s.afterAddressed c mc withAddr with plan := rest } := by
  have command (ms : List Micro) :
      Reaches { s with plan := addressedPlan s.addr c mc false ++ ms } { s.afterCommand c mc with plan := ms } :=
    (reaches_deviceAddress hr _).trans (reaches_headerByte (s := s.afterSent .devaddr true 0xA0#8) hr .command mc c ms)
  cases withAddr with
  | false => exact command rest
  | true =>
    refine (command (addressPlan s.addr ++ rest)).trans ?_
    refine (reaches_headerByte (s := s.afterCommand c mc) hr .addrh true (addrHigh s.addr) _).trans ?_
    exact reaches_headerByte (s := (s.afterCommand c mc).afterSent ..) hr .addrl true (addrLow s.addr) rest

/-- ADDRESSED at the head of the plan. -/
theorem reaches_addressed {s : State} (hr : Ready s) (c : Byte) (mc withAddr : Bool) (rest : List Micro) :
    Reaches { s with plan := .op (.addressed c mc withAddr) :: rest }
      { s.afterAddressed c mc withAddr with plan := rest } :=
  reaches_op hr.1 rfl rfl (exec_addressed c mc withAddr _) (reaches_addressedPlan hr c mc withAddr rest)

/-- Settles O24: ADDRESSED plans its header (`exec_addressed`), whose bytes are sent one after the other, with or without the
address (`reaches_addressedPlan`). -/
theorem addressedSendsTheHeader : Obligations.AddressedSendsTheHeader := by
  unfold Obligations.AddressedSendsTheHeader
  intro s c mc hr
  constructor
  · exact ⟨_, exec_addressed c mc false s, _, reaches_addressedPlan hr c mc false s.plan, rfl, rfl⟩
  · exact ⟨_, exec_addressed c mc true s, _, reaches_addressedPlan hr c mc true s.plan, rfl, rfl⟩

/-! ### The received cells of a frame, counted -/

/-- The environment after `j` received cells and `k` more. -/
theorem State.afterPairs_add (s : State) (j k : Nat) : s.afterPairs (j + k) = (s.afterPairs j).afterPairs k := by
  induction j generalizing s with
  | zero => rw [Nat.zero_add]; rfl
  | succ j ih => rw [Nat.succ_add]; exact ih s.answered.answered

/-- The pairs of `j` received cells and of `k` more. -/
theorem State.nextPairs_add (s : State) (j k : Nat) :
    s.nextPairs (j + k) = s.nextPairs j ++ (s.afterPairs j).nextPairs k := by
  induction j generalizing s with
  | zero => rw [Nat.zero_add]; rfl
  | succ j ih => rw [Nat.succ_add, State.nextPairs, ih]; rfl

/-- The pairs of `k` received cells and of one more. -/
theorem State.nextPairs_succ (s : State) (k : Nat) : s.nextPairs (k + 1) = s.nextPairs k ++ [s.pairAt k] :=
  s.nextPairs_add k 1

/-- The pair of the received cell after `j` and then `k` others. -/
theorem State.pairAt_afterPairs (s : State) (j k : Nat) : (s.afterPairs j).pairAt k = s.pairAt (j + k) :=
  congrArg State.nextPair (s.afterPairs_add j k).symm

/-- A cell that reads invalid does not acknowledge (R66). -/
theorem not_readsOne_or_readsInvalid (p : Config.Params) (x : Level × Level) :
    (!readsOne p x || readsInvalid p x) = !readsOne p x := by
  rw [readsInvalid, bne, readsOne]
  cases x == p.rxOnePair <;> rfl

/-- After `k + 1` received cells of a frame at whose beginning the state was `s` and the environment answered as `e`; the last
of them is a slave cell, `missed` tells whether a slave cell did not acknowledge, and `slots` is what the frame has put on the
wire. -/
def State.afterCells (s e : State) (mak : Bool) (k : Nat) (missed : Bool) (slots : List SlotRec) : State :=
  { s with
    tickPending := false, makf := mak, dir := .input, lvl := makBitOf s.params mak
    s1 := (e.pairAt k).1, s2 := (e.pairAt k).2, sampleOut := (e.pairAt k).2, bitres := outcomeOf s.params (e.pairAt k)
    lerr := s.lerr || (e.nextPairs (k + 1)).any (readsInvalid s.params)
    cerr := s.cerr || s.lerr || missed || (e.nextPairs (k + 1)).any (readsInvalid s.params)
    samples := (e.afterPairs (k + 1)).samples, free := (e.afterPairs (k + 1)).free
    seq.cell := 0, seq.ph := 0, wire := s.wireAfter slots }

/-- An acknowledge exchange is one received cell. -/
theorem State.afterAck_eq_afterCells {s e : State} (same : SameAnswers s e) (xs : List SlotRec) :
    s.afterAck xs = s.afterCells e s.makf 0 (!readsOne s.params (e.pairAt 0))
      (xs ++ txTrace (makBitOf s.params s.makf) ++ rxTrace (e.pairAt 0)) := by
  have pairs : e.nextPairs (0 + 1) = [e.nextPair] := rfl
  have first : e.pairAt 0 = e.nextPair := rfl
  simp only [State.afterAck, same.nextPair, (same.afterPairs 1).1, (same.afterPairs 1).2, State.afterCells, pairs, first,
    List.any_cons, List.any_nil, Bool.false_or, Bool.or_assoc, Bool.or_left_comm, Bool.or_comm]

/-- Received cells of a frame and then more of them; the errors are those of both. -/
theorem State.afterCells_afterCells (s e : State) (m mak missed missed' : Bool) (j k : Nat) (xs ys : List SlotRec) :
    (s.afterCells e m j missed xs).afterCells (e.afterPairs (j + 1)) mak k missed' ys =
      s.afterCells e mak (j + 1 + k) (missed || missed') (xs ++ ys) := by
  have pairs : e.nextPairs (j + 1 + k + 1) = e.nextPairs (j + 1) ++ (e.afterPairs (j + 1)).nextPairs (k + 1) :=
    e.nextPairs_add (j + 1) (k + 1)
  have env : e.afterPairs (j + 1 + k + 1) = (e.afterPairs (j + 1)).afterPairs (k + 1) := e.afterPairs_add (j + 1) (k + 1)
  simp only [State.afterCells, e.pairAt_afterPairs, pairs, env, List.any_append, s.wireAfter_append,
    Bool.or_assoc, Bool.or_left_comm, Bool.or_comm, Bool.or_self_left, Bool.or_self]
  rfl

/-- The first byte sent in a frame. -/
theorem State.afterSent_eq_afterCells {s e : State} (same : SameAnswers s e) (f : FrameStep) (mak : Bool) (v : Byte) :
    s.afterSent f mak v = { s with txb := 0#8, seq.fst := f }.afterCells e mak 0 (!readsOne s.params (e.pairAt 0))
      (txByteTrace v (makBitOf s.params mak) (e.pairAt 0)) :=
  State.afterAck_eq_afterCells (s := { s with txb := 0#8, makf := mak, seq.fst := f }) same _

/-- A further byte sent in a frame. -/
theorem State.afterCells_afterSent (s e : State) (m mak missed : Bool) (k : Nat) (xs : List SlotRec) (f : FrameStep)
    (v : Byte) :
    (s.afterCells e m k missed xs).afterSent f mak v =
      { s with txb := 0#8, seq.fst := f }.afterCells e mak (k + 1) (missed || !readsOne s.params (e.pairAt (k + 1)))
        (xs ++ txByteTrace v (makBitOf s.params mak) (e.pairAt (k + 1))) :=
  (State.afterSent_eq_afterCells (s := s.afterCells e m k missed xs) (e := e.afterPairs (k + 1)) ⟨rfl, rfl⟩ f mak v).trans
    ({ s with txb := 0#8, seq.fst := f }.afterCells_afterCells e m mak missed _ k 0 xs _)

/-- A byte received: its eight data cells and its slave cell. -/
theorem State.afterRxByte_eq_afterCells {s e : State} (same : SameAnswers s e) :
    s.afterRxByte = { s with rxb := byteOfPairs s.params (e.nextPairs 8) }.afterCells e s.makf 8
      (!readsOne s.params (e.pairAt 8)) (rxByteTrace (e.nextPairs 8) (makBitOf s.params s.makf) (e.pairAt 8)) := by
  have inner : SameAnswers
    { s with rxb := byteOfPairs s.params (s.nextPairs 8), lerr := s.lerr || (s.nextPairs 8).any (readsInvalid s.params),
             samples := (s.afterPairs 8).samples, free := (s.afterPairs 8).free } (e.afterPairs 8) := same.afterPairs 8
  have pairs : e.nextPairs (8 + 1) = e.nextPairs 8 ++ (e.afterPairs 8).nextPairs (0 + 1) := e.nextPairs_add 8 1
  have env : e.afterPairs (8 + 1) = (e.afterPairs 8).afterPairs (0 + 1) := e.afterPairs_add 8 1
  rw [State.afterRxByte, State.afterAck_eq_afterCells inner]
  simp only [State.afterCells, same.nextPairs, pairs, env, List.any_append, e.pairAt_afterPairs,
    Bool.or_assoc, Bool.or_left_comm, Bool.or_comm]
  rfl

/-- A byte received in a frame after other cells. -/
theorem State.afterCells_afterRxByte (s e : State) (m mak missed : Bool) (k : Nat) (xs : List SlotRec) :
    { s.afterCells e m k missed xs with makf := mak }.afterRxByte =
      { s with rxb := byteOfPairs s.params ((e.afterPairs (k + 1)).nextPairs 8) }.afterCells e mak (k + 1 + 8)
        (missed || !readsOne s.params (e.pairAt (k + 1 + 8)))
        (xs ++ rxByteTrace ((e.afterPairs (k + 1)).nextPairs 8) (makBitOf s.params mak) (e.pairAt (k + 1 + 8))) := by
  rw [← e.pairAt_afterPairs, ← State.afterCells_afterCells _ e m]
  exact State.afterRxByte_eq_afterCells (s := { s.afterCells e m k missed xs with makf := mak }) ⟨rfl, rfl⟩

/-! ### The frames -/

/-- Slave cells of which one reads invalid do not all acknowledge (R66). -/
theorem not_all_readsOne_or_any_readsInvalid (p : Config.Params) (xs : List (Level × Level)) :
    (!xs.all (readsOne p) || xs.any (readsInvalid p)) = !xs.all (readsOne p) := by
  induction xs with
  | nil => rfl
  | cons x xs ih =>
    rw [List.all_cons, List.any_cons, Bool.not_and, Bool.or_assoc, Bool.or_left_comm (!xs.all _), ih, ← Bool.or_assoc,
      not_readsOne_or_readsInvalid]

/-- Of two slave cells one does not acknowledge. -/
theorem State.not_readsOne_of_two (e : State) (p : Config.Params) :
    (!readsOne p (e.pairAt 0) || !readsOne p (e.pairAt 1)) = !(e.nextPairs 2).all (readsOne p) := by
  have pairs : e.nextPairs 2 = [e.pairAt 0, e.pairAt 1] := rfl
  rw [pairs, List.all_cons, List.all_cons, List.all_nil, Bool.and_true, Bool.not_and]

/-- The errors of a received byte frame: its slave cell does not acknowledge, or one of its nine cells reads invalid. -/
theorem State.errors_eq_not_cleanAt (s : State) (k : Nat) :
    (!readsOne s.params (s.pairAt (k + 8)) || ((s.afterPairs k).nextPairs 9).any (readsInvalid s.params)) =
      !s.cleanAt k := by
  rw [State.nextPairs_succ, List.any_append, List.any_cons, List.any_nil, Bool.or_false, State.pairAt_afterPairs,
    Bool.or_left_comm, not_readsOne_or_readsInvalid, State.cleanAt, Bool.not_and, Bool.not_not]

/-- The slots of the device address byte and the command byte (R135), the environment answering as `e`. -/
def State.headerTrace (e : State) (p : Config.Params) (c : Byte) (mc : Bool) : List SlotRec :=
  txByteTrace 0xA0#8 p.makBit (e.pairAt 0) ++ txByteTrace c (makBitOf p mc) (e.pairAt 1)

/-- The header without the address, in a frame whose environment answered as `e` before it. -/
theorem State.afterCommand_eq_afterCells {s e : State} (same : SameAnswers s e) (c : Byte) (mc : Bool) :
    s.afterCommand c mc = { s with txb := 0#8, seq.fst := .command }.afterCells e mc 1
      (!(e.nextPairs 2).all (readsOne s.params)) (e.headerTrace s.params c mc) := by
  rw [State.afterCommand, State.afterSent_eq_afterCells same, State.afterCells_afterSent, ← State.not_readsOne_of_two]
  rfl

/-- After a whole frame of `k + 1` received cells (R133 to R139), before which the environment answered as `e`; `slots` is
what lies between its preamble and its idle drive. -/
def State.afterFrame (s e : State) (mak : Bool) (k : Nat) (missed : Bool) (slots : List SlotRec) : State :=
  { s with
    tickPending := false, txb := 0#8, makf := mak, dir := .output, lvl := true
    s1 := (e.pairAt k).1, s2 := (e.pairAt k).2, sampleOut := (e.pairAt k).2, bitres := outcomeOf s.params (e.pairAt k)
    lerr := s.lerr || (e.nextPairs (k + 1)).any (readsInvalid s.params)
    cerr := s.cerr || s.lerr || (missed || (e.nextPairs (k + 1)).any (readsInvalid s.params))
    samples := (e.afterPairs (k + 1)).samples, free := (e.afterPairs (k + 1)).free
    seq := { s.seq with frame := .none, fst := .idle, cell := 0, ph := 0, wait := 0 }
    wire := s.wireAfter (startTrace s.params ++ slots ++ [.high]) }

/-- A frame is its preamble, its received cells with all between them, and its idle drive. -/
theorem State.afterStart_afterCells_afterEnd (s e : State) (f : FrameStep) (mak : Bool) (k : Nat) (missed : Bool)
    (slots : List SlotRec) :
    ({ s.afterStart with seq.fst := f }.afterCells e mak k missed slots).afterEnd = s.afterFrame e mak k missed slots := by
  simp only [State.afterFrame, s.wireAfter_append, ← Bool.or_assoc]
  simp only [State.afterEnd, State.afterCells, State.afterStart, Bool.or_assoc, Bool.or_self_left]
  rfl

/-- The preamble takes no sample (R130). -/
theorem sameAnswers_afterStart (s : State) (kind : FrameKind) : SameAnswers (s.beginFrame kind []).afterStart s := ⟨rfl, rfl⟩

/-- A frame runs to its end when its body does: the preamble goes before the body and the idle drive after it. -/
theorem reaches_frame {s t u e : State} {kind : FrameKind} {f : FrameStep} {body : List Micro} {mak missed : Bool} {k : Nat}
    {slots : List SlotRec} (hr : Ready s)
    (hb : ∀ rest, Reaches { (s.beginFrame kind []).afterStart with plan := body ++ rest } { u with plan := rest })
    (hu : u = { t.afterStart with seq.fst := f }.afterCells e mak k missed slots) (ht : Ready t) :
    Reaches (s.beginFrame kind (.op .fstart :: body ++ [.op .fend]))
      { t.afterFrame e mak k missed slots with plan := s.plan } := by
  subst hu
  rw [← t.afterStart_afterCells_afterEnd e f, State.beginFrame, List.cons_append, List.cons_append, List.append_assoc]
  refine (reaches_fstart (s := s.beginFrame kind []) hr _).trans ((hb _).trans ?_)
  exact reaches_fend (s := { t.afterStart with seq.fst := f }.afterCells e mak k missed slots) ht s.plan

/-! ### F_WREN -/

/-- R134: F_WREN begins its frame. -/
@[simp] theorem exec_fWren (s : State) :
    exec .fWren s =
      .next (s.beginFrame .wren [.op .fstart, .op (.addressed Config.CMD_WREN false false), .op .fend]) := rfl

/-- The frame of F_WREN runs to its end. -/
theorem reaches_wrenFrame {s : State} (hr : Ready s) :
    Reaches (s.beginFrame .wren [.op .fstart, .op (.addressed Config.CMD_WREN false false), .op .fend])
      (s.afterFrame s false 1 (!(s.nextPairs 2).all (readsOne s.params)) (s.headerTrace s.params 0x96#8 false)) := by
  have body := reaches_addressed (s := (s.beginFrame .wren []).afterStart) hr 0x96#8 false false
  exact reaches_frame (t := s.beginFrame .wren []) (body := [.op (.addressed 0x96#8 false false)]) hr body
    (State.afterCommand_eq_afterCells (sameAnswers_afterStart s .wren) 0x96#8 false) hr

/-- Settles O26: F_WREN begins its frame (`exec_fWren`), which runs to its end (`reaches_wrenFrame`); an error in it is a slave
cell that does not acknowledge, because a pair that reads invalid does not (`not_all_readsOne_or_any_readsInvalid`). -/
theorem fWrenSendsWriteEnable : Obligations.FWrenSendsWriteEnable := by
  unfold Obligations.FWrenSendsWriteEnable
  intro s hr _
  refine ⟨_, exec_fWren s, _, reaches_wrenFrame hr, rfl, ?_⟩
  rw [State.afterFrame, not_all_readsOne_or_any_readsInvalid, State.headerTrace, ← List.append_assoc]
  rfl

/-! ### F_PRESENCE -/

/-- A received byte does not see the rest of the plan. -/
theorem State.afterRxByte_withPlan (s : State) (ms : List Micro) :
    { s with plan := ms }.afterRxByte = { s.afterRxByte with plan := ms } := by
  rw [State.afterRxByte_eq_afterCells (s := s) (e := s) ⟨rfl, rfl⟩]
  exact State.afterRxByte_eq_afterCells (s := { s with plan := ms }) (e := s) ⟨rfl, rfl⟩

/-- RXBYTE at the head of the plan. -/
theorem reaches_rxbyte {s : State} (hr : Ready s) (rest : List Micro) :
    Reaches { s with plan := .op .rxbyte :: rest } { s.afterRxByte with plan := rest } := by
  rw [← State.afterRxByte_withPlan]
  exact reaches_op hr.1 rfl rfl (exec_rxbyte _) (reaches_receiveByte (s := { s with plan := rest }) hr)

/-- CMD_RDSR at the head of the plan. -/
theorem reaches_cmdRdsr {s : State} (hr : Ready s) (rest : List Micro) :
    Reaches { s with plan := .op .cmdRdsr :: rest } { s.afterSent .command true 0x05#8 with plan := rest } :=
  reaches_fixedByte hr exec_cmdRdsr (fun _ _ => rfl) rest

/-- R133: PRES latched after the first byte of a frame tells that there was no error before and that its slave cell
acknowledged. -/
theorem zeroLatchPres_afterCells (s e : State) (mak : Bool) (xs : List SlotRec) :
    zeroLatchPres (s.afterCells e mak 0 (!readsOne s.params (e.pairAt 0)) xs) =
      { s with pres := !(s.cerr || s.lerr) && readsOne s.params (e.pairAt 0) }.afterCells e mak 0
        (!readsOne s.params (e.pairAt 0)) xs := by
  have invalid : (e.nextPairs (0 + 1)).any (readsInvalid s.params) = readsInvalid s.params (e.pairAt 0) := Bool.or_false _
  have latch : (!(s.afterCells e mak 0 (!readsOne s.params (e.pairAt 0)) xs).cerr) =
      (!(s.cerr || s.lerr) && readsOne s.params (e.pairAt 0)) := by
    rw [State.afterCells, invalid, Bool.or_assoc _ (!_), not_readsOne_or_readsInvalid, Bool.not_or, Bool.not_not]
  rw [zeroLatchPres, latch]
  rfl

/-- R133: F_PRESENCE between its preamble and its idle drive. -/
def presenceBody : List Micro :=
  [.op .deviceAddress, .act .latchPres, .op .cmdRdsr, .act .payload, .act (.makf false), .op .rxbyte]

/-- R133: F_PRESENCE begins its frame. -/
@[simp] theorem exec_fPresence (s : State) :
    exec .fPresence s = .next (s.beginFrame .presence (.op .fstart :: presenceBody ++ [.op .fend])) := rfl

/-- What the device address byte, the latch of PRES and the command byte of F_PRESENCE leave (R133). -/
def State.afterLatchedHeader (s : State) : State :=
  (zeroLatchPres (s.afterSent .devaddr true 0xA0#8)).afterSent .command true 0x05#8

/-- The cells of F_PRESENCE's header, before which the environment answered as `e`. -/
theorem State.afterLatchedHeader_eq_afterCells {s e : State} (same : SameAnswers s e) :
    s.afterLatchedHeader =
      { s with txb := 0#8, pres := !(s.cerr || s.lerr) && readsOne s.params (e.pairAt 0),
               seq.fst := .command }.afterCells e true 1
        (!(e.nextPairs 2).all (readsOne s.params)) (e.headerTrace s.params 0x05#8 true) := by
  rw [State.afterLatchedHeader, State.afterSent_eq_afterCells same, zeroLatchPres_afterCells, State.afterCells_afterSent,
    ← State.not_readsOne_of_two]
  rfl

/-- The header of F_PRESENCE at the head of the plan. -/
theorem reaches_latchedHeader {s : State} (hr : Ready s) (rest : List Micro) :
    Reaches { s with plan := .op .deviceAddress :: .act .latchPres :: .op .cmdRdsr :: rest }
      { s.afterLatchedHeader with plan := rest } := by
  refine (reaches_deviceAddress hr _).trans ?_
  refine reaches_act hr.1 rfl rfl ?_
  exact reaches_cmdRdsr (s := zeroLatchPres (s.afterSent .devaddr true 0xA0#8)) hr rest

/-- The first payload byte received, with its acknowledge, at the head of the plan (R139). -/
theorem reaches_payloadByte {s : State} (hr : Ready s) (mak : Bool) (rest : List Micro) :
    Reaches { s with plan := .act .payload :: .act (.makf mak) :: .op .rxbyte :: rest }
      { { zeroPayload s with makf := mak }.afterRxByte with plan := rest } := by
  refine reaches_act hr.1 rfl rfl ?_
  refine reaches_act hr.1 rfl rfl ?_
  exact reaches_rxbyte (s := { zeroPayload s with makf := mak }) hr rest

/-- What the body of F_PRESENCE leaves: its header, and the status byte received with NoMAK (R133). -/
def State.afterPresenceBody (s : State) : State :=
  { zeroPayload s.afterLatchedHeader with makf := false }.afterRxByte

/-- The cells of F_PRESENCE, before which the environment answered as `e`. -/
theorem State.afterPresenceBody_eq_afterCells {s e : State} (same : SameAnswers s e) :
    s.afterPresenceBody =
      { s with txb := 0#8, rxb := byteOfPairs s.params ((e.afterPairs 2).nextPairs 8),
               pres := !(s.cerr || s.lerr) && readsOne s.params (e.pairAt 0),
               seq.fst := .payload, seq.idx := 0 }.afterCells e false 10
        (!(e.nextPairs 2).all (readsOne s.params) || !readsOne s.params (e.pairAt 10))
        (e.headerTrace s.params 0x05#8 true ++
          rxByteTrace ((e.afterPairs 2).nextPairs 8) (!s.params.makBit) (e.pairAt 10)) := by
  rw [State.afterPresenceBody, State.afterLatchedHeader_eq_afterCells same]
  exact { s with txb := 0#8, pres := !(s.cerr || s.lerr) && readsOne s.params (e.pairAt 0),
                 seq.fst := .payload, seq.idx := 0 }.afterCells_afterRxByte e true false _ 1 _

/-- The body of F_PRESENCE at the head of the plan. -/
theorem reaches_presenceBody {s : State} (hr : Ready s) (rest : List Micro) :
    Reaches { s with plan := presenceBody ++ rest } { s.afterPresenceBody with plan := rest } :=
  (reaches_latchedHeader hr _).trans (reaches_payloadByte (s := s.afterLatchedHeader) hr false rest)

/-- The frame of F_PRESENCE runs to its end. -/
theorem reaches_presenceFrame {s : State} (hr : Ready s) :
    Reaches (s.beginFrame .presence (.op .fstart :: presenceBody ++ [.op .fend]))
      ({ s with rxb := s.byteAt 2, pres := !(s.cerr || s.lerr) && readsOne s.params (s.pairAt 0),
                seq.idx := 0 }.afterFrame s false 10
        (!(s.nextPairs 2).all (readsOne s.params) || !readsOne s.params (s.pairAt 10))
        (s.headerTrace s.params 0x05#8 true ++
          rxByteTrace ((s.afterPairs 2).nextPairs 8) (!s.params.makBit) (s.pairAt 10))) := by
  have cells := State.afterPresenceBody_eq_afterCells (sameAnswers_afterStart s .presence)
  have before : ((s.beginFrame .presence []).afterStart.cerr || (s.beginFrame .presence []).afterStart.lerr) =
      (s.cerr || s.lerr) := (Bool.or_assoc ..).trans (congrArg _ (Bool.or_self _))
  rw [before] at cells
  exact reaches_frame
    (t := { s.beginFrame .presence [] with
      rxb := s.byteAt 2, pres := !(s.cerr || s.lerr) && readsOne s.params (s.pairAt 0), seq.idx := 0 })
    hr (reaches_presenceBody hr) cells hr

/-- The errors of F_PRESENCE: a header byte is not acknowledged, or the status byte is not clean. -/
theorem State.presence_errors (s : State) :
    (!(s.nextPairs 2).all (readsOne s.params) || !readsOne s.params (s.pairAt 10) ||
      (s.nextPairs (10 + 1)).any (readsInvalid s.params)) = !(s.acksAt 2 && s.cleanAt 2) := by
  have pairs : s.nextPairs (10 + 1) = s.nextPairs 2 ++ (s.afterPairs 2).nextPairs 9 := s.nextPairs_add 2 9
  rw [pairs, List.any_append, Bool.or_assoc, Bool.or_left_comm (!readsOne s.params (s.pairAt 10)),
    ← Bool.or_assoc, not_all_readsOne_or_any_readsInvalid, s.errors_eq_not_cleanAt 2, Bool.not_and]
  rfl

/-- Settles O25: F_PRESENCE begins its frame (`exec_fPresence`), which runs to its end (`reaches_presenceFrame`); PRES is
latched after the first of its received cells (`zeroLatchPres_afterCells`), and the errors are those of all eleven
(`State.presence_errors`). -/
theorem fPresenceLatchesTheAddressAcknowledge : Obligations.FPresenceLatchesTheAddressAcknowledge := by
  unfold Obligations.FPresenceLatchesTheAddressAcknowledge
  intro s hr _
  refine ⟨_, exec_fPresence s, _, reaches_presenceFrame hr, rfl, ?_⟩
  rw [State.afterFrame, s.presence_errors, State.headerTrace, ← List.append_assoc, ← List.append_assoc]
  rfl

end Sys2Proof.Machine

/-! The invariants and the rules of the whole machine. What one step can do is said once: what an operation does (`exec_ran`),
what a zero-time step does (`runZero_ran`), what the host does (`hostAct_moved`), and from these what a step does (`step_moved`).
Each statement about every step is then a case analysis on that answer. -/

namespace Sys2Proof.Machine

open Sys2Proof

/-! ### Plans: what a position may be replaced by -/

/-- The plan of a busy block: inner positions that one ending position closes (R212). -/
def ClosedPlan (ms : List Micro) : Prop := ∃ init m, ms = init ++ [m] ∧ init.all Micro.inner = true ∧ m.last = true

/-- An ending position by itself closes an operation. -/
theorem ClosedPlan.single {m : Micro} (h : m.last = true) : ClosedPlan [m] := ⟨[], m, rfl, rfl, h⟩

/-- Inner positions go in front of a closed plan. -/
theorem ClosedPlan.append {ms rest : List Micro} (hm : ms.all Micro.inner = true) (h : ClosedPlan rest) :
    ClosedPlan (ms ++ rest) := by
  obtain ⟨init, m, rfl, hi, hl⟩ := h
  exact ⟨ms ++ init, m, (List.append_assoc ..).symm, by rw [List.all_append, hm, hi]; rfl, hl⟩

/-- The head of a closed plan is its end, or an inner position before a closed plan. -/
theorem ClosedPlan.head {m : Micro} {rest : List Micro} (h : ClosedPlan (m :: rest)) :
    m.last = true ∧ rest = [] ∨ m.inner = true ∧ ClosedPlan rest := by
  obtain ⟨init, l, he, hi, hl⟩ := h
  cases init with
  | nil =>
    obtain ⟨rfl, rfl⟩ := List.cons.inj he
    exact .inl ⟨hl, rfl⟩
  | cons x init =>
    obtain ⟨rfl, rfl⟩ := List.cons.inj he
    rw [List.all_cons, Bool.and_eq_true] at hi
    exact .inr ⟨hi.1, init, l, rfl, hi.2, hl⟩

/-- A position that ends an operation is no inner one. -/
theorem Micro.not_inner_of_last {m : Micro} (h : m.last = true) : m.inner = false := by
  cases m with
  | act z => exact congrArg not h
  | op _ => cases h
  | word _ _ => rfl

/-- Whether a position writes LOCK. -/
def Micro.writesLock : Micro → Bool
  | .act (.lock _) => true
  | _ => false

/-- Only LOCK's own position writes LOCK. -/
theorem Micro.ne_lock_of_not_writesLock {m : Micro} (h : m.writesLock = false) (b : Bool) : m ≠ .act (.lock b) := by
  rintro rfl
  cases h

/-- A position that does not write LOCK must fit LOCK, and leaves the rule to what follows (R169). -/
theorem lockedPlan_cons {lock : Bool} {m : Micro} {rest : List Micro} (hm : m.writesLock = false) :
    lockedPlan lock (m :: rest) = (m.fitsLock lock && lockedPlan lock rest) := by
  cases m with
  | op i => exact lockedPlan_op lock i rest
  | act z => exact lockedPlan_act lock rest fun b e => Micro.ne_lock_of_not_writesLock hm b (congrArg Micro.act e)
  | word _ _ => cases lock <;> rfl

/-- The positions `ms` may take the place of `m` at the head of a plan: ownership and the lock rule of the plan are kept. -/
structure Replaces (m : Micro) (ms : List Micro) : Prop where
  closed : ∀ rest, ClosedPlan (m :: rest) → ClosedPlan (ms ++ rest)
  locked : ∀ lock rest, lockedPlan lock (m :: rest) = true → lockedPlan lock (ms ++ rest) = true

/-- The positions `ms` are inner ones, write no LOCK, and fit LOCK wherever the inner position `m` does. -/
def Micro.unfoldsTo (m : Micro) (ms : List Micro) : Bool :=
  m.inner && !m.writesLock && ms.all Micro.inner && ms.all (fun x => !x.writesLock) &&
    (!m.fitsLock true || ms.all (Micro.fitsLock true)) && (!m.fitsLock false || ms.all (Micro.fitsLock false))

/-- Such positions may take the place of `m`. -/
theorem Replaces.of_unfoldsTo {m : Micro} {ms : List Micro} (h : m.unfoldsTo ms = true) : Replaces m ms := by
  simp only [Micro.unfoldsTo, Bool.and_eq_true, Bool.or_eq_true, Bool.not_eq_true'] at h
  obtain ⟨⟨⟨⟨⟨hm, hw⟩, hin⟩, hws⟩, htrue⟩, hfalse⟩ := h
  constructor
  · intro rest hc
    rcases hc.head with ⟨hl, -⟩ | ⟨-, hr⟩
    · rw [Micro.not_inner_of_last hl] at hm
      cases hm
    · exact .append hin hr
  · intro lock rest hl
    rw [lockedPlan_cons hw, Bool.and_eq_true] at hl
    have fits : ms.all (Micro.fitsLock lock) = true := by
      cases lock with
      | true => exact htrue.resolve_left (by simp [hl.1])
      | false => exact hfalse.resolve_left (by simp [hl.1])
    rw [lockedPlan_append lock rest fun x hx => ⟨List.all_eq_true.mp fits x hx, fun b =>
      Micro.ne_lock_of_not_writesLock (by simpa using List.all_eq_true.mp hws x hx) b⟩]
    exact hl.2

/-- A decision fits LOCK = 0 only (R169). -/
theorem ZeroStep.lock_of_decision {z : ZeroStep} {lock : Bool} (hz : z.decision = true)
    (h : (Micro.act z).fitsLock lock = true) : lock = false := by
  cases lock with
  | true => simp [Micro.fitsLock, hz] at h
  | false => rfl

/-- A decision writes no LOCK. -/
theorem ZeroStep.not_writesLock_of_decision {z : ZeroStep} (hz : z.decision = true) : (Micro.act z).writesLock = false := by
  cases z <;> cases hz <;> rfl

/-- A decision may be replaced by what keeps the lock rule from LOCK = 0 on, if the plan stays closed. -/
theorem Replaces.of_decision {z : ZeroStep} {ms : List Micro} (hz : z.decision = true)
    (hc : ∀ rest, ClosedPlan (.act z :: rest) → ClosedPlan (ms ++ rest))
    (hl : ∀ rest, lockedPlan false (ms ++ rest) = lockedPlan false rest) : Replaces (.act z) ms := by
  refine ⟨hc, fun lock rest h => ?_⟩
  rw [lockedPlan_cons (ZeroStep.not_writesLock_of_decision hz), Bool.and_eq_true] at h
  obtain rfl := ZeroStep.lock_of_decision hz h.1
  rw [hl]
  exact h.2

/-- What an ending position goes on with closes the operation in its place. -/
theorem ClosedPlan.of_last {z : ZeroStep} {ms : List Micro} (hz : z.ends = true) (h : ClosedPlan ms) (rest : List Micro)
    (hc : ClosedPlan (.act z :: rest)) : ClosedPlan (ms ++ rest) := by
  rcases hc.head with ⟨-, rfl⟩ | ⟨hi, -⟩
  · rwa [List.append_nil]
  · rw [Micro.not_inner_of_last (m := .act z) hz] at hi
    cases hi

/-- What an inner position plans keeps the plan closed. -/
theorem ClosedPlan.of_inner {m : Micro} {ms : List Micro} (hm : m.last = false) (h : ms.all Micro.inner = true)
    (rest : List Micro) (hc : ClosedPlan (m :: rest)) : ClosedPlan (ms ++ rest) := by
  rcases hc.head with ⟨hl, -⟩ | ⟨-, hr⟩
  · rw [hl] at hm
    cases hm
  · exact .append h hr

/-! ### What running one position does -/

/-- The counters in their ranges, with N (R19, R26, R83). -/
def Counted (n : Nat) (q : Seq) : Prop := n ≤ 16 ∧ q.att ≤ 3 ∧ q.vatt ≤ 3 ∧ q.idx ≤ 15 ∧ q.pcnt ≤ 120

/-- R77, R139: the index goes on only while another payload byte is planned, and so stays below 16. -/
theorem Counted.next_idx {n : Nat} {q : Seq} (hmak : payloadMak q.idx n = true) :
    Counted n q → Counted n { q with idx := q.idx + 1 } := by
  rintro ⟨hn, ha, hv, -, hp⟩
  have next : q.idx + 1 < n := of_decide_eq_true hmak
  have bound : q.idx + 1 ≤ 15 := by omega
  exact ⟨hn, ha, hv, bound, hp⟩

/-- A state in range: its counters and its two buffers. -/
theorem inRange_iff (s : State) : InRange s ↔ Counted s.n s.seq ∧ s.buf.wf = true ∧ s.vbuf.wf = true := by
  simp only [InRange, Counted, and_assoc]

/-- The position `m` works on the registers and on SEQ and plans `ms`; the line, the slot trace, LOCK, the buffers and all that
is the host's stay, an error flag that is set stays set, and the counters stay in their ranges. -/
structure Plans (m : Micro) (s t : State) (ms : List Micro) : Prop where
  frame : t = { s with
    txb := t.txb, rxb := t.rxb, makf := t.makf, lerr := t.lerr, cerr := t.cerr, bitres := t.bitres, pres := t.pres
    s1 := t.s1, s2 := t.s2, seq := t.seq, plan := ms ++ s.plan, tickPending := t.tickPending, samples := t.samples
    sampleOut := t.sampleOut, callOk := t.callOk, free := t.free }
  lerr : s.lerr = true → t.lerr = true
  cerr : s.cerr = true → t.cerr = true
  counts : Counted s.n s.seq → Counted s.n t.seq
  replaces : Replaces m ms

/-- START, or a host command, has begun (R160): at once complete with RESULT = 0 (R173), or with a plan of its own. -/
inductive Began (s : State) : State → Prop
  | rejected (n : Nat) (hn : n ≤ 16) : Began s ({ s with n := n }.complete (some false))
  | begun (n : Nat) (q : Seq) (ms : List Micro) (hq : Counted s.n s.seq → Counted n q) (closed : ClosedPlan ms)
      (locked : lockedPlan false ms = true) :
      Began s { s with busy := true, n := n, seq := q, tickPending := false, plan := ms ++ s.plan }

/-- What running one position of the plan, which `s` no longer holds, can lead to. -/
inductive Ran (s : State) : Micro → State → Prop
  /-- The host's operations. -/
  | command {i : Instr} {t : State} (hi : issuedByHost i = true) (op : BitVec 2) (len : Byte) (addr : Half)
      (h : Began { s with op := op, len := len, addr := addr } t) : Ran s (.op i) t
  /-- LinkReset (R33). -/
  | linkReset : Ran s (.op .linkreset) s.linkReset
  /-- A slot that takes its tick (R91). -/
  | slot (a : SlotAct) (dir : Dir) (lvl out : Level) (samples : List Level) (free : Nat) (r : SlotRec) :
      Ran s (.op (.slot a)) { s with tickPending := false, dir := dir, lvl := lvl, sampleOut := out, samples := samples,
                                     free := free, wire := r :: s.wire }
  /-- A bare action on the line (R92, R93). -/
  | line {i : Instr} (hi : i = .driveHigh ∨ i = .driveLow ∨ i = .release) (dir : Dir) (lvl : Level) :
      Ran s (.op i) { s with dir := dir, lvl := lvl }
  /-- LOCK is written (R169). -/
  | lock (b : Bool) : Ran s (.act (.lock b)) { s with lock := b }
  /-- A READ stores bytes to its destination (R136, R166). -/
  | stores {z : ZeroStep} (d : Dest) (m : Memory) (q : Seq) (ok : Bool) (ms : List Micro)
      (hz : z = .readNext d ∨ z = .readAttempt d) (hm : s.n ≤ 16 → (s.buffer d).wf = true → m.wf = true)
      (hq : Counted s.n s.seq → Counted s.n q) (replaces : Replaces (.act z) ms) :
      Ran s (.act z) ({ s with seq := q, callOk := ok, plan := ms ++ s.plan }.setBuffer d m)
  /-- An operation completes (R161); only STANDBY's completion leaves RESULT. -/
  | completes {z : ZeroStep} (hz : z.ends = true) (r : Option Bool) (hr : z = .finishStandby → r = none) :
      Ran s (.act z) (s.complete r)
  /-- Everything else. -/
  | plans {m : Micro} {t : State} {ms : List Micro} (h : Plans m s t ms) : Ran s m t

/-! ### The start of a host operation (R160, R173, R174) -/

/-- R162: a PRESENCE begins its one attempt. -/
theorem State.hostStart_presence {s : State} (h : s.op = 0#2) :
    s.hostStart = { s with busy := true, tickPending := false, seq.top := .presence }.push
      (attemptPlan [.op .fPresence] .finishPresence) := by
  simp only [State.hostStart, h, opPresence, if_true]
  rfl

/-- R165: a STANDBY begins its pulse. -/
theorem State.hostStart_standby {s : State} (h : s.op = 3#2) :
    s.hostStart = { s with busy := true, tickPending := false, seq.top := .standby }.push
      [.op .spulse, .act .finishStandby] := by
  simp only [State.hostStart, h, opPresence, opRead, opWrite]
  rfl

/-- R163, R174: a READ of at least one byte begins ReadCore. -/
theorem State.hostStart_read {s : State} (h : s.op = 1#2) (hl : s.len ≠ 0#8) :
    s.hostStart = { s with busy := true, tickPending := false, n := clampLen s.len, seq.top := .read }.push
      [.op (.readcore .buf), .act .finishRead] := by
  simp only [State.hostStart, h, opPresence, opRead, beginRead, clampLen_eq_zero, if_neg hl]
  rfl

/-- R164, R174: a WRITE of at least one byte begins its loop of attempts. -/
theorem State.hostStart_write {s : State} (h : s.op = 2#2) (hl : s.len ≠ 0#8) :
    s.hostStart = { s with busy := true, tickPending := false, n := clampLen s.len, seq.top := .write, seq.att := 0 }.push
      [.act .writeAttempt] := by
  simp only [State.hostStart, h, opPresence, opRead, opWrite, beginWrite, clampLen_eq_zero, if_neg hl]
  rfl

/-- R173: a READ or WRITE of no byte completes at once with RESULT = 0. -/
theorem State.hostStart_zeroLength {s : State} (h : s.op = 1#2 ∨ s.op = 2#2) (hl : s.len = 0#8) :
    s.hostStart = { s with n := 0 }.complete (some false) := by
  rcases h with h | h <;>
  · simp only [State.hostStart, h, opPresence, opRead, opWrite, beginRead, beginWrite, (clampLen_eq_zero s.len).mpr hl]
    rfl

/-- R79, R80: the four operation codes. -/
theorem opCode_cases (op : BitVec 2) : op = 0#2 ∨ op = 1#2 ∨ op = 2#2 ∨ op = 3#2 := by
  revert op
  decide

/-- What a host operation begins with. -/
theorem hostStart_began (s : State) : Began s s.hostStart := by
  have clamp : clampLen s.len ≤ 16 := Nat.min_le_right ..
  rcases opCode_cases s.op with h | h | h | h
  · rw [State.hostStart_presence h]
    exact .begun s.n { s.seq with top := .presence } (attemptPlan [.op .fPresence] .finishPresence) id
      ⟨[_, _, _, _], _, rfl, rfl, rfl⟩ rfl
  · by_cases hl : s.len = 0#8
    · rw [State.hostStart_zeroLength (.inl h) hl]
      exact .rejected 0 (Nat.zero_le 16)
    · rw [State.hostStart_read h hl]
      exact .begun (clampLen s.len) { s.seq with top := .read } _ (fun h => ⟨clamp, h.2⟩) ⟨[_], _, rfl, rfl, rfl⟩ rfl
  · by_cases hl : s.len = 0#8
    · rw [State.hostStart_zeroLength (.inr h) hl]
      exact .rejected 0 (Nat.zero_le 16)
    · rw [State.hostStart_write h hl]
      exact .begun (clampLen s.len) { s.seq with top := .write, att := 0 } _ (fun h => ⟨clamp, Nat.zero_le 3, h.2.2⟩)
        (.single (m := .act .writeAttempt) rfl) rfl
  · rw [State.hostStart_standby h]
    exact .begun s.n { s.seq with top := .standby } _ id ⟨[_], _, rfl, rfl, rfl⟩ rfl

/-! ### What each position does -/

/-- A host command begins only while the block is idle (R160), and is the start of its operation. -/
theorem command_ran {i : Instr} {op : BitVec 2} {len : Byte} {addr : Half} {s t : State} (hi : issuedByHost i = true)
    (h : s.command op len addr = .next t) : Ran s (.op i) t := by
  unfold State.command at h
  split at h <;> cases h
  exact .command hi op len addr (hostStart_began _)

/-- The pulse of START is the command the registers hold. -/
theorem tryStart_ran {i : Instr} {s t : State} (hi : issuedByHost i = true) (h : s.tryStart = .next t) :
    Ran s (.op i) t := by
  rw [State.tryStart_eq_next_iff] at h
  rw [h.2]
  exact .command hi s.op s.len s.addr (hostStart_began s)

/-- A position that works on registers and on SEQ alone. -/
theorem Ran.registers {m : Micro} {s t : State} {ms : List Micro} (hm : m.unfoldsTo ms = true)
    (frame : t = { s with
      txb := t.txb, rxb := t.rxb, makf := t.makf, lerr := s.lerr, cerr := s.cerr, bitres := t.bitres, pres := t.pres
      s1 := t.s1, s2 := t.s2, seq := t.seq, plan := ms ++ s.plan, tickPending := t.tickPending, samples := t.samples
      sampleOut := t.sampleOut, callOk := t.callOk, free := t.free })
    (counts : Counted s.n s.seq → Counted s.n t.seq) : Ran s m t := by
  have hl : t.lerr = s.lerr := by rw [frame]
  have hc : t.cerr = s.cerr := by rw [frame]
  exact .plans ⟨by rwa [hl, hc], fun h => hl.trans h, fun h => hc.trans h, counts, .of_unfoldsTo hm⟩

/-- The environment's answer changes its own fields only (R94). -/
theorem State.answered_frame (s : State) : s.answered = { s with samples := s.answered.samples, free := s.answered.free } := by
  unfold State.answered
  split <;> rfl

/-- A slot that finds no tick stays where it is; one that finds its tick acts (R91). -/
theorem execSlot_ran {a : SlotAct} {s t : State} (h : execSlot a s = .next t) : Ran s (.op (.slot a)) t := by
  cases hp : s.tickPending with
  | false =>
    rw [execSlot_waits a s hp] at h
    cases h
    exact .registers (ms := [.op (.slot a)]) (by cases a <;> rfl) rfl id
  | true =>
    rw [execSlot_pending a s hp] at h
    cases a with
    | high => cases h; exact .slot .high .output true s.sampleOut s.samples s.free .high
    | low => cases h; exact .slot .low .output false s.sampleOut s.samples s.free .low
    | release => cases h; exact .slot .release .input s.lvl s.sampleOut s.samples s.free .release
    | idle => cases h; exact .slot .idle s.dir s.lvl s.sampleOut s.samples s.free .idle
    | sample =>
      simp only [slotAction] at h
      split at h <;> cases h
      next u hu =>
        obtain ⟨-, rfl⟩ := (State.takeSample_eq_next_iff ..).mp hu
        rw [State.answered_frame]
        exact .slot .sample s.dir s.lvl _ _ _ _

/-- What an operation can do. -/
theorem exec_ran {i : Instr} {s t : State} (h : exec i s = .next t) : Ran s (.op i) t := by
  cases i with
  | presence len addr => exact command_ran rfl h
  | read len addr => exact command_ran rfl h
  | write len addr => exact command_ran rfl h
  | standby len addr => exact command_ran rfl h
  | start => exact tryStart_ran rfl h
  | linkreset => cases h; exact .linkReset
  | slot a => exact execSlot_ran h
  | driveHigh => cases h; exact .line (.inl rfl) .output true
  | driveLow => cases h; exact .line (.inr (.inl rfl)) .output false
  | release => cases h; exact .line (.inr (.inr rfl)) .input s.lvl
  | waittick =>
    simp only [exec, execWaittick] at h
    split at h <;> cases h
    · exact .registers (ms := []) rfl rfl id
    · exact .registers (ms := [.op .waittick]) rfl rfl id
  | sample =>
    obtain ⟨-, rfl⟩ := (State.takeSample_eq_next_iff ..).mp h
    rw [State.answered_frame]
    exact .registers (ms := []) rfl rfl id
  | noaction => cases h; exact .registers (ms := []) rfl rfl id
  | cleartick => cases h; exact .registers (ms := []) rfl rfl id
  | txbit b => cases h; exact .registers (ms := txCell b) (by cases b <;> rfl) rfl id
  | txbitOne => cases h; exact .registers (ms := txCell true) rfl rfl id
  | txbitZero => cases h; exact .registers (ms := txCell false) rfl rfl id
  | rxbit => cases h; exact .registers (ms := rxCell) rfl rfl id
  | rxbitOne => cases h; exact .registers (ms := rxCell) rfl rfl id
  | rxbitZero => cases h; exact .registers (ms := rxCell) rfl rfl id
  | rxbitInvalidLL => cases h; exact .registers (ms := rxCell) rfl rfl id
  | rxbitInvalidHH => cases h; exact .registers (ms := rxCell) rfl rfl id
  | mak => cases h; exact .registers (ms := txCell _) (by cases makBitOf s.params true <;> rfl) rfl id
  | nomak => cases h; exact .registers (ms := txCell _) (by cases makBitOf s.params false <;> rfl) rfl id
  | sak => cases h; exact .registers (ms := rxCell ++ [Micro.act .slaveCheck]) rfl rfl id
  | txbyte v => cases h; exact .registers (ms := txDataCells ++ [.op (.ackx true)]) rfl rfl id
  | txbyteSync => cases h; exact .registers (ms := txDataCells ++ [.op (.ackx false)]) rfl rfl id
  | rxbyte => cases h; exact .registers (ms := rxDataCells ++ [.op (.ackx true)]) rfl rfl id
  | ackx check =>
    cases h
    exact .registers (ms := ackPlan s.makf check) (by cases s.makf <;> cases check <;> rfl) rfl id
  | syncByte => cases h; exact .registers (ms := txDataCells ++ [.op (.ackx false)]) rfl rfl id
  | deviceAddress => cases h; exact .registers (ms := txDataCells ++ [.op (.ackx true)]) rfl rfl id
  | cmdRdsr => cases h; exact .registers (ms := txDataCells ++ [.op (.ackx true)]) rfl rfl id
  | cmdWren => cases h; exact .registers (ms := txDataCells ++ [.op (.ackx true)]) rfl rfl id
  | cmdRead => cases h; exact .registers (ms := txDataCells ++ [.op (.ackx true)]) rfl rfl id
  | cmdWrite => cases h; exact .registers (ms := txDataCells ++ [.op (.ackx true)]) rfl rfl id
  | fstart => cases h; exact .registers (ms := startPlan s.params) rfl rfl id
  | fend => cases h; exact .registers (ms := endPlan) rfl rfl id
  | spulse => cases h; exact .registers (ms := pulsePlan s.params) rfl rfl id
  | addressed c mc withAddr =>
    cases h
    exact .registers (ms := addressedPlan s.addr c mc withAddr) (by cases withAddr <;> rfl) rfl id
  | fPresence => cases h; exact .registers (ms := .op .fstart :: presenceBody ++ [.op .fend]) rfl rfl id
  | fWren => cases h; exact .registers (ms := [_, _, _]) rfl rfl id
  | fRead d => cases h; exact .registers (ms := [_, _, _, _, _]) rfl rfl id
  | fWrite => cases h; exact .registers (ms := [_, _, _, _, _]) rfl rfl id
  | fPoll => cases h; exact .registers (ms := [_, _, _, _, _, _]) rfl rfl id
  | readcore d =>
    cases h
    cases d with
    | buf => exact .registers (ms := [.act (.readAttempt .buf)]) rfl rfl fun ⟨hn, _, hv, hi⟩ => ⟨hn, Nat.zero_le 3, hv, hi⟩
    | vbuf =>
      exact .registers (ms := [.act (.readAttempt .vbuf)]) rfl rfl fun ⟨hn, ha, _, hi⟩ => ⟨hn, ha, Nat.zero_le 3, hi⟩
  | verify => cases h; exact .registers (ms := [_, _]) rfl rfl id

/-- R166: the loop of ReadCore counts another attempt, or gives up with the zero fill. -/
theorem zeroReadAttempt_ran (d : Dest) (s : State) : Ran s (.act (.readAttempt d)) (zeroReadAttempt d s) := by
  unfold zeroReadAttempt
  split
  next hlt =>
    refine .plans (ms := attemptPlan [.op (.fRead d)] (.readDecide d))
      ⟨?_, ?_, ?_, ?_, .of_decision rfl (.of_inner rfl rfl) ?_⟩
    · cases d <;> rfl
    · cases d <;> exact id
    · cases d <;> exact id
    · rintro ⟨hn, ha, hv, hi⟩
      cases d with
      | buf => exact ⟨hn, hlt, hv, hi⟩
      | vbuf => exact ⟨hn, ha, hlt, hi⟩
    · intro rest
      exact lockedPlan_attempt rest (by rintro m hm; rw [List.mem_singleton.mp hm]; exact ⟨rfl, fun b => nofun⟩) rfl
  next =>
    have h : Ran s (.act (.readAttempt d)) _ := .stores d ((s.buffer d).zeroFill s.n) s.seq false [] (.inr rfl)
      (fun hn hw => Memory.wf_zeroFill hw hn) id (.of_decision rfl (.of_inner rfl rfl) fun _ => rfl)
    cases d <;> exact h

/-- The received byte stored to its index of the destination (R136). -/
def State.stored (s : State) (d : Dest) : State := s.setBuffer d ((s.buffer d).write s.seq.idx s.rxb)

/-- R136, R139: the store of a received byte, and the next payload byte if one is planned. -/
theorem zeroReadNext_eq {s : State} {d : Dest} (hi : s.seq.idx < Config.PAGE_SIZE) :
    zeroReadNext d s =
      .next (if payloadMak s.seq.idx s.n then
        { s.stored d with seq.idx := s.seq.idx + 1 }.push [.act (.readByte d)] else s.stored d) := by
  unfold zeroReadNext
  rw [(State.store_eq_next_iff ..).mpr ⟨hi, rfl⟩]
  cases d <;> exact (apply_ite Host.Outcome.next ..).symm

/-- R40: a store is made to an existing index only. -/
theorem idx_lt_of_zeroReadNext {s t : State} {d : Dest} (h : zeroReadNext d s = .next t) :
    s.seq.idx < Config.PAGE_SIZE := by
  unfold zeroReadNext at h
  split at h
  next hu => exact ((State.store_eq_next_iff ..).mp hu).1
  next => cases h
  next => cases h

/-- What the store of a received byte does. -/
theorem zeroReadNext_ran {d : Dest} {s t : State} (h : zeroReadNext d s = .next t) : Ran s (.act (.readNext d)) t := by
  have hi := idx_lt_of_zeroReadNext h
  have wf (_ : s.n ≤ 16) (hw : (s.buffer d).wf = true) : ((s.buffer d).write s.seq.idx s.rxb).wf = true :=
    Memory.wf_write s.rxb hw hi
  rw [zeroReadNext_eq hi] at h
  split at h <;> cases h
  next hmak =>
    have r : Ran s (.act (.readNext d)) _ := .stores d _ { s.seq with idx := s.seq.idx + 1 } s.callOk
      [.act (.readByte d)] (.inl rfl) wf (Counted.next_idx hmak) (.of_unfoldsTo rfl)
    cases d <;> exact r
  next =>
    have r : Ran s (.act (.readNext d)) _ := .stores d _ s.seq s.callOk [] (.inl rfl) wf id (.of_unfoldsTo rfl)
    cases d <;> exact r

/-- R168: a recovery goes back to the loop of attempts. -/
theorem recover_plans {z loop : ZeroStep} (s : State) (hz : z.decision = true) (hl : loop.decision = true)
    (hc : ∀ rest, ClosedPlan (.act z :: rest) → ClosedPlan ([.op .spulse, .act loop] ++ rest)) :
    Plans (.act z) s (s.recover loop) [.op .spulse, .act loop] :=
  ⟨rfl, id, id, id, .of_decision hz hc fun rest => lockedPlan_recover { s with plan := rest } hl⟩

/-- What a zero-time step can do. -/
theorem runZero_ran {z : ZeroStep} {s t : State} (h : runZero z s = .next t) : Ran s (.act z) t := by
  cases z with
  | phase p => cases h; exact .registers (ms := []) rfl rfl id
  | cell c => cases h; exact .registers (ms := []) rfl rfl id
  | frameStep f => cases h; exact .registers (ms := []) rfl rfl id
  | frameDone => cases h; exact .registers (ms := []) rfl rfl id
  | setWait n => cases h; exact .registers (ms := []) rfl rfl id
  | waitDown => cases h; exact .registers (ms := []) rfl rfl id
  | hold =>
    simp only [runZero, zeroHold] at h
    split at h <;> cases h
    · exact .registers (ms := []) rfl rfl id
    · exact .registers (ms := [_, _, _]) rfl rfl id
  | txData => cases h; exact .registers (ms := [_]) rfl rfl id
  | txShift => cases h; exact .registers (ms := []) rfl rfl id
  | rxShift => cases h; exact .registers (ms := []) rfl rfl id
  | latchS1 => cases h; exact .registers (ms := []) rfl rfl id
  | latchS2 => cases h; exact .registers (ms := []) rfl rfl id
  | judge =>
    cases h
    exact .plans (ms := []) ⟨rfl, fun h => by simp [zeroJudge, lerrAfter, h], id, id, .of_unfoldsTo rfl⟩
  | slaveCheck =>
    cases h
    exact .plans (ms := []) ⟨rfl, id, fun h => by simp [zeroSlaveCheck, cerrAfterSlave, h], id, .of_unfoldsTo rfl⟩
  | escalate =>
    cases h
    exact .plans (ms := []) ⟨rfl, id, fun h => by simp [zeroEscalate, cerrAfterEscalation, h], id, .of_unfoldsTo rfl⟩
  | makf b => cases h; exact .registers (ms := []) rfl rfl id
  | latchPres => cases h; exact .registers (ms := []) rfl rfl id
  | payload =>
    cases h
    exact .registers (ms := []) rfl rfl fun ⟨hn, ha, hv, _, hp⟩ => ⟨hn, ha, hv, Nat.zero_le 15, hp⟩
  | readByte d =>
    simp only [runZero, zeroReadByte] at h
    split at h <;> cases h
    · exact .registers (ms := [_, _]) rfl rfl id
    · exact .registers (ms := []) rfl rfl id
  | readNext d => exact zeroReadNext_ran h
  | writeByte =>
    simp only [runZero, zeroWriteByte] at h
    split at h
    · split at h <;> cases h
      exact .registers (ms := [_, _]) rfl rfl id
    · cases h
      exact .registers (ms := []) rfl rfl id
  | writeNext =>
    simp only [runZero, zeroWriteNext] at h
    split at h <;> cases h
    next hmak =>
      exact .registers (ms := [_]) rfl rfl (Counted.next_idx hmak)
    next => exact .registers (ms := []) rfl rfl id
  | pollStart =>
    cases h
    exact .registers (ms := []) rfl rfl fun ⟨hn, ha, hv, hi, _⟩ => ⟨hn, ha, hv, hi, Nat.zero_le 120⟩
  | pollByte => cases h; exact .registers (ms := [_, _]) rfl rfl id
  | pollTest =>
    have ceiling (h : Counted s.n s.seq) :
        Counted s.n { s.seq with pcnt := min (s.seq.pcnt + 1) Config.POLL_CEILING } := by
      obtain ⟨hn, ha, hv, hi, -⟩ := h
      exact ⟨hn, ha, hv, hi, Nat.min_le_right ..⟩
    simp only [runZero, zeroPollTest] at h
    split at h
    · cases h; exact .registers (ms := []) rfl rfl ceiling
    · split at h <;> cases h
      · exact .plans (ms := []) ⟨rfl, id, fun _ => rfl, ceiling, .of_unfoldsTo rfl⟩
      · exact .registers (ms := [_]) rfl rfl ceiling
  | lock b => cases h; exact .lock b
  | readAttempt d => cases h; exact zeroReadAttempt_ran d s
  | readDecide d =>
    simp only [runZero, zeroReadDecide] at h
    split at h <;> cases h
    · exact .plans (recover_plans s rfl rfl (.of_inner rfl rfl))
    · exact .registers (ms := []) rfl rfl id
  | compare =>
    simp only [runZero, zeroCompare] at h
    split at h <;> cases h
    exact .registers (ms := []) rfl rfl id
  | writeAttempt =>
    simp only [runZero, zeroWriteAttempt] at h
    split at h <;> cases h
    next hlt =>
      refine .plans (ms := attemptPlan [.op .fWren, .op .fWrite, .op .fPoll] .writeDecide) ⟨rfl, id, id, ?_,
        .of_decision rfl (.of_last rfl ⟨[_, _, _, _, _, _], _, rfl, rfl, rfl⟩) ?_⟩
      · exact fun ⟨hn, _, hi⟩ => ⟨hn, hlt, hi⟩
      · intro rest
        exact lockedPlan_attempt rest (by simp [Micro.fitsLock, issuedByHost, betweenAttempts]) rfl
    next => exact .completes rfl (some false) nofun
  | writeDecide =>
    simp only [runZero, zeroWriteDecide] at h
    split at h <;> cases h
    · exact .plans (recover_plans s rfl rfl (.of_last rfl ⟨[_], _, rfl, rfl, rfl⟩))
    · exact .plans (ms := [.op .verify, .act .verifyDecide])
        ⟨rfl, id, id, id, .of_decision rfl (.of_last rfl ⟨[_], _, rfl, rfl, rfl⟩) fun _ => rfl⟩
  | verifyDecide =>
    simp only [runZero, zeroVerifyDecide] at h
    split at h <;> cases h
    · exact .completes rfl (some true) nofun
    · exact .plans (recover_plans s rfl rfl (.of_last rfl ⟨[_], _, rfl, rfl, rfl⟩))
  | finishPresence => cases h; exact .completes rfl (some s.pres) nofun
  | finishRead => cases h; exact .completes rfl (some s.callOk) nofun
  | finishStandby => cases h; exact .completes rfl none fun _ => rfl

/-! ### What a step does -/

/-- The position that the head of a plan is run as: a table word is decoded first (log 21). -/
def Micro.decoded : Micro → Option Micro
  | .word nbits w => (decodeTableWord nbits w).map .op
  | .op i => some (.op i)
  | .act z => some (.act z)

/-- The head of the plan is run as the position it decodes to. -/
theorem runMicro_ran {m : Micro} {s t : State} (h : runMicro m s = .next t) : ∃ m', m.decoded = some m' ∧ Ran s m' t := by
  cases m with
  | op i => exact ⟨_, rfl, exec_ran h⟩
  | act z => exact ⟨_, rfl, runZero_ran h⟩
  | word nbits w =>
    simp only [runMicro, runWord] at h
    split at h
    next i hi => exact ⟨.op i, by simp [Micro.decoded, hi], exec_ran h⟩
    next => cases h

/-- The position that runs is the one the head of the plan decodes to. -/
theorem State.running_of_head {s : State} {m : Micro} {rest : List Micro} {ms : List Move} (hp : s.plan = m :: rest)
    (hs : s.schedule = [] ∧ ms = [] ∧ waiting s = false ∨ s.schedule = .sequencer :: ms) : s.running = m.decoded := by
  unfold State.running
  rw [hp]
  rcases hs with ⟨hs, -, hw⟩ | hs <;> rw [hs]
  · rw [hw]
    cases m <;> rfl
  · cases m <;> rfl

/-- What runs is what the head of the plan decodes to. -/
theorem State.head_of_running {s : State} {m : Micro} (h : s.running = some m) :
    ∃ m0 rest, s.plan = m0 :: rest ∧ m0.decoded = some m := by
  unfold State.running at h
  cases hp : s.plan with
  | nil => rw [hp] at h; dsimp only at h; split at h <;> simp at h
  | cons m0 rest =>
    refine ⟨m0, rest, rfl, ?_⟩
    rw [hp] at h
    cases m0 <;> (dsimp only at h; split at h <;> simp_all [Micro.decoded])

/-- What a step can do. -/
inductive Moved (s t : State) : Prop
  /-- The schedule, the tick flag and the tick source are all that moves. -/
  | environment (ms : List Move) (p o : Bool) (h : t = { s with schedule := ms, tickPending := p, tickOn := o })
  /-- The host reads, writes one of its registers or BUF, or configures the tick source (R219, R232). -/
  | access (a : HostAction) (ms : List Move) (ha : s.hostMove = some a)
      (frame : t = { s with
        schedule := ms, op := t.op, addr := t.addr, len := t.len, buf := t.buf, hostData := t.hostData, free := t.free
        tickOn := t.tickOn, bitPeriod := t.bitPeriod })
      (registers : t.op ≠ s.op ∨ t.addr ≠ s.addr ∨ t.len ≠ s.len →
        (∃ v, a = .writeOp v) ∨ (∃ v, a = .writeAddr v) ∨ ∃ v, a = .writeLen v)
      (buf : t.buf ≠ s.buf → ∃ i v, a = .writeBuf i v) (wf : s.buf.wf = true → t.buf.wf = true)
  /-- The host pulses START (R160). -/
  | start (ms : List Move) (ha : s.hostMove = some .start) (hb : s.busy = false) (h : Began { s with schedule := ms } t)
  /-- The host resets the block (R230). -/
  | reset (ms : List Move) (ha : s.hostMove = some .reset) (h : t = { s with schedule := ms }.hardReset)
  /-- The sequencer runs the head of its plan. -/
  | ran (m m0 : Micro) (rest : List Micro) (ms : List Move) (hm : s.running = some m) (hp : s.plan = m0 :: rest)
      (hd : m0.decoded = some m) (h : Ran { s with plan := rest, schedule := ms } m t)

/-- What the host's action does. -/
theorem hostAct_moved {s t : State} {a : HostAction} {ms : List Move} (hs : s.schedule = .host a :: ms)
    (h : hostAct a { s with schedule := ms } = .next t) : Moved s t := by
  have ha : s.hostMove = some a := by rw [State.hostMove, hs]
  have idle {r : Result} (h : { s with schedule := ms }.whenIdle r = .next t) : r = .next t := by
    unfold State.whenIdle at h
    split at h
    · cases h
    · exact h
  cases a with
  | writeOp v => cases idle h; exact .access _ ms ha rfl (fun _ => .inl ⟨v, rfl⟩) (absurd rfl) id
  | writeAddr v => cases idle h; exact .access _ ms ha rfl (fun _ => .inr (.inl ⟨v, rfl⟩)) (absurd rfl) id
  | writeLen v => cases idle h; exact .access _ ms ha rfl (fun _ => .inr (.inr ⟨v, rfl⟩)) (absurd rfl) id
  | writeBuf i v =>
    obtain ⟨hi, rfl⟩ := (State.store_eq_next_iff ..).mp (idle h)
    exact .access _ ms ha rfl (by simp [State.setBuffer]) (fun _ => ⟨i, v, rfl⟩) fun hw => Memory.wf_write v hw hi
  | readBuf i =>
    have h := idle h
    unfold State.hostReadBuf at h
    split at h
    · split at h <;> cases h <;> exact .access _ ms ha rfl (by simp) (absurd rfl) id
    · cases h
  | readResult =>
    simp only [hostAct, State.hostReadResult] at h
    split at h <;> cases h <;> exact .access _ ms ha rfl (by simp) (absurd rfl) id
  | readBusy => cases h; exact .access _ ms ha rfl (by simp) (absurd rfl) id
  | readLock => cases h; exact .access _ ms ha rfl (by simp) (absurd rfl) id
  | start =>
    obtain ⟨hb, rfl⟩ := (State.tryStart_eq_next_iff ..).mp h
    exact .start ms ha hb (hostStart_began _)
  | reset => cases h; exact .reset ms ha rfl
  | configureTick tBit =>
    obtain ⟨-, -, -, rfl⟩ := (State.configureTick_eq_next_iff ..).mp h
    exact .access _ ms ha rfl (by simp) (absurd rfl) id

/-- What a step does. -/
theorem step_moved {s t : State} (h : step s = .next t) : Moved s t := by
  rcases step_cases h with ⟨a, ms, hs, ha⟩ | ⟨ms, p, o, rfl⟩ | ⟨m0, rest, ms, hp, hs, hm⟩
  · exact hostAct_moved hs ha
  · exact .environment ms p o rfl
  · obtain ⟨m, hd, hr⟩ := runMicro_ran hm
    exact .ran m m0 rest ms ((State.running_of_head hp hs).trans hd) hp hd hr

/-! ### The ranges (R19, R26, R83) -/

/-- Every counter of an idle SEQ is 0. -/
theorem Counted.idle {n : Nat} (hn : n ≤ 16) : Counted n Seq.idle :=
  ⟨hn, Nat.zero_le 3, Nat.zero_le 3, Nat.zero_le 15, Nat.zero_le 120⟩

/-- A host operation begins in range. -/
theorem Began.inRange {s t : State} (h : Began s t) (hr : InRange s) : InRange t := by
  rw [inRange_iff] at hr ⊢
  obtain ⟨hc, hb⟩ := hr
  cases h with
  | rejected n hn => exact ⟨.idle hn, hb⟩
  | begun n q ms hq _ _ => exact ⟨hq hc, hb⟩

/-- Running a position keeps the ranges. -/
theorem Ran.inRange {s t : State} {m : Micro} (h : Ran s m t) (hr : InRange s) : InRange t := by
  cases h with
  | command _ op len addr h => exact h.inRange hr
  | linkReset | slot | line | lock => exact hr
  | completes =>
    rw [inRange_iff] at hr ⊢
    exact ⟨.idle hr.1.1, hr.2⟩
  | stores d m q ok ms _ hm hq _ =>
    rw [inRange_iff] at hr ⊢
    obtain ⟨hc, hb, hv⟩ := hr
    cases d with
    | buf => exact ⟨hq hc, hm hc.1 hb, hv⟩
    | vbuf => exact ⟨hq hc, hb, hm hc.1 hv⟩
  | plans h =>
    rw [inRange_iff] at hr ⊢
    obtain ⟨hc, hb⟩ := hr
    rw [h.frame]
    exact ⟨h.counts hc, hb⟩

/-- Settles O51: a step that runs a position keeps the ranges (`Ran.inRange`), START begins in range (`Began.inRange`), the
host writes existing indices only, and a reset clears what is bounded. -/
theorem stepKeepsTheRanges : Obligations.StepKeepsTheRanges := by
  unfold Obligations.StepKeepsTheRanges
  intro s t hr h
  cases step_moved h with
  | environment ms p o h => subst h; exact hr
  | access a ms _ frame _ _ wf =>
    rw [inRange_iff] at hr ⊢
    obtain ⟨hc, hb, hv⟩ := hr
    rw [frame]
    exact ⟨hc, wf hb, hv⟩
  | start ms _ _ h => exact h.inRange hr
  | reset ms _ h =>
    rw [inRange_iff, h]
    exact ⟨.idle (Nat.le_of_lt_succ (Config.freeLength s.free).isLt), rfl, rfl⟩
  | ran m m0 rest ms _ _ _ h => exact h.inRange hr

/-! ### Ownership (R22, R23, R161, R212, R213) -/

/-- A busy block with a closed plan is owned. -/
theorem Owned.of_busy {s : State} (hb : s.busy = true) (hp : ClosedPlan s.plan) : Owned s :=
  ⟨fun h => absurd (hb.symm.trans h) nofun, fun _ => hp⟩

/-- An idle block with nothing to run is owned. -/
theorem Owned.of_idle {s : State} (hb : s.busy = false) (hp : s.plan = []) (hl : s.lock = false) (hq : s.seq = Seq.idle) :
    Owned s :=
  ⟨fun _ => ⟨hp, hl, hq⟩, fun h => absurd (hb.symm.trans h) nofun⟩

/-- An operation that begins in an idle block owns it. -/
theorem Began.owned {s t : State} (h : Began s t) (hp : s.plan = []) : Owned t := by
  cases h with
  | rejected n hn => exact .of_idle rfl hp rfl rfl
  | begun n q ms _ closed _ => exact .of_busy rfl (by rwa [hp, List.append_nil])

/-- A block with something to run is busy, and its plan is closed. -/
theorem Owned.closed_of_head {s : State} {m : Micro} {rest : List Micro} (ho : Owned s) (hp : s.plan = m :: rest) :
    s.busy = true ∧ ClosedPlan (m :: rest) := by
  cases hb : s.busy with
  | false =>
    obtain ⟨hnil, -, -⟩ := ho.1 hb
    rw [hp] at hnil
    cases hnil
  | true => exact ⟨rfl, hp ▸ ho.2 hb⟩

/-- In a closed plan no host operation stands at the head. -/
theorem ClosedPlan.not_issuedByHost {i : Instr} {rest : List Micro} (h : ClosedPlan (.op i :: rest)) :
    issuedByHost i = false := by
  rcases h.head with ⟨hl, -⟩ | ⟨hi, -⟩
  · cases hl
  · rwa [Micro.inner, Bool.not_eq_true'] at hi

/-- In a closed plan no table word stands at the head. -/
theorem ClosedPlan.decoded_head {m0 m : Micro} {rest : List Micro} (h : ClosedPlan (m0 :: rest))
    (hd : m0.decoded = some m) : m0 = m := by
  cases m0 with
  | op i => exact Option.some.inj hd
  | act z => exact Option.some.inj hd
  | word _ _ => rcases h.head with ⟨hl, -⟩ | ⟨hi, -⟩ <;> contradiction

/-- Running the head of a busy block's closed plan keeps ownership. -/
theorem Ran.owned {s t : State} {m : Micro} (h : Ran s m t) (hb : s.busy = true) (hc : ClosedPlan (m :: s.plan)) :
    Owned t := by
  have inner (ms : List Micro) (hm : m.unfoldsTo ms = true) : ClosedPlan (ms ++ s.plan) :=
    (Replaces.of_unfoldsTo hm).closed s.plan hc
  cases h with
  | command hi => rw [hc.not_issuedByHost] at hi; cases hi
  | linkReset => exact .of_busy hb (inner [] rfl)
  | slot a => exact .of_busy hb (inner [] (by cases a <;> rfl))
  | line hi => exact .of_busy hb (inner [] (by rcases hi with rfl | rfl | rfl <;> rfl))
  | lock b =>
    rcases hc.head with ⟨hl, -⟩ | ⟨-, hr⟩
    · cases hl
    · exact .of_busy hb hr
  | stores d m q ok ms _ _ _ replaces => cases d <;> exact .of_busy hb (replaces.closed _ hc)
  | completes hz =>
    rcases hc.head with ⟨-, hp⟩ | ⟨hi, -⟩
    · exact .of_idle rfl hp rfl rfl
    · rw [Micro.not_inner_of_last (m := .act _) hz] at hi; cases hi
  | plans h => rw [h.frame]; exact .of_busy hb (h.replaces.closed _ hc)

/-- Settles O52: a position of a closed plan leaves it closed, or ends it and the block is idle (`Ran.owned`); START finds
nothing to run (`Began.owned`); the host's accesses and a reset are no part of a plan. -/
theorem stepKeepsOwnership : Obligations.StepKeepsOwnership := by
  unfold Obligations.StepKeepsOwnership
  intro s t ho h
  cases step_moved h with
  | environment ms p o h => subst h; exact ho
  | access a ms _ frame => rw [frame]; exact ho
  | start ms _ hb h => exact h.owned (ho.1 hb).1
  | reset ms _ h => rw [h]; exact .of_idle rfl rfl rfl rfl
  | ran m m0 rest ms _ hp hd h =>
    obtain ⟨hb, hc⟩ := ho.closed_of_head hp
    obtain rfl := hc.decoded_head hd
    exact h.owned hb hc

/-! ### The lock rule (R22, R169) -/

/-- Running the head of a plan that keeps the lock rule leaves one that does. -/
theorem Ran.lockKept {s t : State} {m : Micro} (h : Ran s m t) (hc : ClosedPlan (m :: s.plan))
    (hk : lockedPlan s.lock (m :: s.plan) = true) : LockKept t := by
  have inner (ms : List Micro) (hm : m.unfoldsTo ms = true) : lockedPlan s.lock (ms ++ s.plan) = true :=
    (Replaces.of_unfoldsTo hm).locked s.lock s.plan hk
  cases h with
  | command hi => rw [hc.not_issuedByHost] at hi; cases hi
  | linkReset => exact inner [] rfl
  | slot a => exact inner [] (by cases a <;> rfl)
  | line hi => exact inner [] (by rcases hi with rfl | rfl | rfl <;> rfl)
  | lock b =>
    rw [lockedPlan_lock, Bool.and_eq_true] at hk
    exact hk.2
  | stores d m q ok ms _ _ _ replaces => cases d <;> exact replaces.locked _ _ hk
  | completes hz =>
    rcases hc.head with ⟨-, hp⟩ | ⟨hi, -⟩
    · rw [LockKept, State.complete_plan, hp]
      rfl
    · rw [Micro.not_inner_of_last (m := .act _) hz] at hi; cases hi
  | plans h => rw [h.frame]; exact h.replaces.locked _ _ hk

/-- A host operation that begins in an idle block keeps the lock rule. -/
theorem Began.lockKept {s t : State} (h : Began s t) (hp : s.plan = []) (hl : s.lock = false) : LockKept t := by
  cases h with
  | rejected n hn => rw [LockKept, State.complete_plan]; dsimp only; rw [hp]; rfl
  | begun n q ms _ _ locked => rw [LockKept]; dsimp only; rwa [hp, List.append_nil, hl]

/-- No frame fits LOCK = 0. -/
theorem not_fitsLock_of_isFrame {i : Instr} (hi : isFrame i = true) : (Micro.op i).fitsLock false = false := by
  cases i <;> cases hi <;> rfl

/-- With LOCK = 0 no frame runs. -/
theorem lock_of_isFrame {i : Instr} {lock : Bool} (h : (Micro.op i).fitsLock lock = true) (hi : isFrame i = true) :
    lock = true := by
  cases lock with
  | true => rfl
  | false => rw [not_fitsLock_of_isFrame hi] at h; cases h

/-- With LOCK = 1 nothing runs that stands between attempts. -/
theorem lock_of_betweenAttempts {i : Instr} {lock : Bool} (h : (Micro.op i).fitsLock lock = true)
    (hi : betweenAttempts i = true) : lock = false := by
  cases lock with
  | false => rfl
  | true => simp [Micro.fitsLock, hi] at h

/-- R169: what runs as an operation fits LOCK as it is. -/
theorem Owned.fitsLock_of_running {s : State} {i : Instr} (ho : Owned s) (hk : LockKept s)
    (h : s.running = some (.op i)) : (Micro.op i).fitsLock s.lock = true := by
  obtain ⟨m0, rest, hp, hd⟩ := State.head_of_running h
  obtain rfl := (ho.closed_of_head hp).2.decoded_head hd
  rw [LockKept, hp, lockedPlan_op, Bool.and_eq_true] at hk
  exact hk.1

/-- Beginning a host operation leaves LOCK, or completes with LOCK = 0. -/
theorem Began.lock {s t : State} (h : Began s t) (hne : t.lock ≠ s.lock) : t.busy = false ∧ t.lock = false := by
  cases h with
  | rejected n hn => exact ⟨rfl, rfl⟩
  | begun => exact absurd rfl hne

/-- Settles O53: a step keeps the lock rule, because a position leaves what fits LOCK (`Ran.lockKept`); what runs fits LOCK as it
is (`Owned.fitsLock_of_running`); and the cases of a step say where LOCK is written. -/
theorem lockIsHeldExactlyInAttempts : Obligations.LockIsHeldExactlyInAttempts := by
  unfold Obligations.LockIsHeldExactlyInAttempts
  refine ⟨fun s t ho hk h => ⟨?_, fun i hi => ?_⟩, fun s b rest hs hp => ?_, fun s t h hne => ?_⟩
  · cases step_moved h with
    | environment ms p o h => subst h; exact hk
    | access a ms _ frame => rw [frame]; exact hk
    | start ms _ hb h => exact h.lockKept (ho.1 hb).1 (ho.1 hb).2.1
    | reset ms _ h => rw [h]; rfl
    | ran m m0 rest ms _ hp hd h =>
      obtain ⟨-, hc⟩ := ho.closed_of_head hp
      obtain rfl := hc.decoded_head hd
      rw [LockKept, hp] at hk
      exact h.lockKept hc hk
  · have fits := ho.fitsLock_of_running hk hi
    exact ⟨lock_of_isFrame fits, lock_of_betweenAttempts fits⟩
  · rw [step_runs hs hp (by rw [waiting, hp])]
    rfl
  · cases step_moved h with
    | environment ms p o h => subst h; exact absurd rfl hne
    | access a ms _ frame => rw [frame] at hne; exact absurd rfl hne
    | start ms ha _ h =>
      obtain ⟨hb, hl⟩ := h.lock hne
      exact .inr ⟨hb, hl, .inr (.inr (.inl ha))⟩
    | reset ms ha h => subst h; exact .inr ⟨rfl, rfl, .inr (.inr (.inr ha))⟩
    | ran m m0 rest ms hm _ _ h =>
      cases h with
      | command hi op len addr h =>
        obtain ⟨hb, hl⟩ := h.lock hne
        exact .inr ⟨hb, hl, .inr (.inl ⟨_, hm, hi⟩)⟩
      | linkReset | slot | line => exact absurd rfl hne
      | lock b => exact .inl hm
      | stores d => cases d <;> exact absurd rfl hne
      | completes hz => exact .inr ⟨rfl, rfl, .inl ⟨_, hm, hz⟩⟩
      | plans h => rw [h.frame] at hne; exact absurd rfl hne

/-! ### Who may change what (R14, R15, R18, R20, R24, R27, R29) -/

/-- Settles O55: of what a step can do only LinkReset and a reset clear a flag; a position that works on registers keeps a flag
that is set (`Plans.lerr`, `Plans.cerr`). -/
theorem errorFlagsAreSticky : Obligations.ErrorFlagsAreSticky := by
  unfold Obligations.ErrorFlagsAreSticky
  intro s t h hcl
  have same {p : Prop} (hl : t.lerr = s.lerr) (hc : t.cerr = s.cerr) : p := by
    rw [hl, hc] at hcl
    simp at hcl
  cases step_moved h with
  | environment ms p o h => subst h; exact same rfl rfl
  | access a ms _ frame => exact same (by rw [frame]) (by rw [frame])
  | start ms _ _ h => cases h <;> exact same rfl rfl
  | reset ms ha _ => exact .inr ha
  | ran m m0 rest ms hm _ _ h =>
    cases h with
    | command _ op len addr h => cases h <;> exact same rfl rfl
    | linkReset => exact .inl hm
    | slot | line | lock => exact same rfl rfl
    | stores d => cases d <;> exact same rfl rfl
    | completes => exact same rfl rfl
    | plans h => rcases hcl with ⟨hs, ht⟩ | ⟨hs, ht⟩ <;> simp_all [h.lerr, h.cerr]

/-- Settles O56: of what a step can do only the host's writes, its commands and a reset write OP, ADDR and LEN. -/
theorem blockNeverWritesTheCommandRegisters : Obligations.BlockNeverWritesTheCommandRegisters := by
  unfold Obligations.BlockNeverWritesTheCommandRegisters
  intro s t h hne
  have same {p : Prop} (ho : t.op = s.op) (ha : t.addr = s.addr) (hl : t.len = s.len) : p := by
    rw [ho, ha, hl] at hne
    simp at hne
  cases step_moved h with
  | environment ms p o h => subst h; exact same rfl rfl rfl
  | access a ms ha _ registers =>
    rw [ha]
    rcases registers hne with ⟨v, rfl⟩ | ⟨v, rfl⟩ | ⟨v, rfl⟩
    · exact .inr (.inl ⟨v, rfl⟩)
    · exact .inr (.inr (.inl ⟨v, rfl⟩))
    · exact .inr (.inr (.inr (.inl ⟨v, rfl⟩)))
  | start ms _ _ h => cases h <;> exact same rfl rfl rfl
  | reset ms ha _ => exact .inr (.inr (.inr (.inr ha)))
  | ran m m0 rest ms hm _ _ h =>
    cases h with
    | command hi => exact .inl ⟨_, hm, hi⟩
    | linkReset | slot | line | lock => exact same rfl rfl rfl
    | stores d => cases d <;> exact same rfl rfl rfl
    | completes => exact same rfl rfl rfl
    | plans h => exact same (by rw [h.frame]) (by rw [h.frame]) (by rw [h.frame])

/-- Settles O57: of what a step can do only a READ's store or zero fill into BUF, the host's write and a reset write BUF. -/
theorem onlyReadsAndTheHostWriteBuf : Obligations.OnlyReadsAndTheHostWriteBuf := by
  unfold Obligations.OnlyReadsAndTheHostWriteBuf
  intro s t h hne
  cases step_moved h with
  | environment ms p o h => subst h; exact absurd rfl hne
  | access a ms ha _ _ buf =>
    obtain ⟨i, v, rfl⟩ := buf hne
    exact .inr (.inr (.inl ⟨i, v, ha⟩))
  | start ms _ _ h => cases h <;> exact absurd rfl hne
  | reset ms ha _ => exact .inr (.inr (.inr ha))
  | ran m m0 rest ms hm _ _ h =>
    cases h with
    | command _ op len addr h => cases h <;> exact absurd rfl hne
    | linkReset | slot | line | lock => exact absurd rfl hne
    | stores d m q ok ms hz =>
      cases d with
      | vbuf => exact absurd rfl hne
      | buf =>
        rcases hz with rfl | rfl
        · exact .inl hm
        · exact .inr (.inl hm)
    | completes => exact absurd rfl hne
    | plans h => exact absurd (by rw [h.frame]) hne

/-- Settles O58: of what a step can do only a slot, a bare action on the line and a reset touch DIR and LVL. -/
theorem lineChangesOnlyInASlot : Obligations.LineChangesOnlyInASlot := by
  unfold Obligations.LineChangesOnlyInASlot
  intro s t h hne
  have same {p : Prop} (hd : t.dir = s.dir) (hl : t.lvl = s.lvl) : p := by
    rw [hd, hl] at hne
    simp at hne
  cases step_moved h with
  | environment ms p o h => subst h; exact same rfl rfl
  | access a ms _ frame => exact same (by rw [frame]) (by rw [frame])
  | start ms _ _ h => cases h <;> exact same rfl rfl
  | reset ms ha _ => exact .inr (.inr (.inr (.inr ha)))
  | ran m m0 rest ms hm _ _ h =>
    cases h with
    | command _ op len addr h => cases h <;> exact same rfl rfl
    | linkReset => exact same rfl rfl
    | slot a => exact .inl ⟨a, hm⟩
    | line hi =>
      rcases hi with rfl | rfl | rfl
      · exact .inr (.inl hm)
      · exact .inr (.inr (.inl hm))
      · exact .inr (.inr (.inr (.inl hm)))
    | lock => exact same rfl rfl
    | stores d => cases d <;> exact same rfl rfl
    | completes => exact same rfl rfl
    | plans h => exact same (by rw [h.frame]) (by rw [h.frame])

/-- Beginning a host operation leaves RESULT, or completes at once. -/
theorem Began.result {s t : State} (h : Began s t) (hne : t.result ≠ s.result) : t.busy = false := by
  cases h with
  | rejected => rfl
  | begun => exact absurd rfl hne

/-- While the host acts, no position of the plan is run. -/
theorem State.not_running_of_hostMove {s : State} {a : HostAction} (h : s.hostMove = some a) (m : Micro) :
    s.running ≠ some m := by
  unfold State.hostMove at h
  unfold State.running
  split at h
  next hs => rw [hs]; exact nofun
  next => cases h

/-- Settles O59: of what a step can do only a completion, the host's commands and a reset write RESULT; a command writes it only
where it completes at once (`Began.result`), and STANDBY's completion leaves it. -/
theorem resultIsWrittenAtCompletion : Obligations.ResultIsWrittenAtCompletion := by
  unfold Obligations.ResultIsWrittenAtCompletion
  intro s t h hne
  cases step_moved h with
  | environment ms p o h => subst h; exact absurd rfl hne
  | access a ms _ frame => exact absurd (by rw [frame]) hne
  | start ms ha _ h => exact ⟨h.result hne, State.not_running_of_hostMove ha _, .inr (.inr (.inl ha))⟩
  | reset ms ha h => subst h; exact ⟨rfl, State.not_running_of_hostMove ha _, .inr (.inr (.inr ha))⟩
  | ran m m0 rest ms hm _ _ h =>
    cases h with
    | command hi op len addr h =>
      exact ⟨h.result hne, by rw [hm]; exact nofun, .inr (.inl ⟨_, hm, hi⟩)⟩
    | linkReset | slot | line | lock => exact absurd rfl hne
    | stores d => cases d <;> exact absurd rfl hne
    | completes hz r hr =>
      refine ⟨rfl, fun hst => ?_, .inl ⟨_, hm, hz⟩⟩
      rw [hm, Option.some.injEq, Micro.act.injEq] at hst
      rw [hr hst] at hne
      exact hne rfl
    | plans h => exact absurd (by rw [h.frame]) hne

/-- Settles O60: nothing a step can do writes the parameters, and only a slot that takes its tick extends the slot trace, by
one slot. -/
theorem parametersNeverChange : Obligations.ParametersNeverChange := by
  unfold Obligations.ParametersNeverChange
  intro s t h
  cases step_moved h with
  | environment ms p o h => subst h; exact ⟨rfl, .inl rfl⟩
  | access a ms _ frame => rw [frame]; exact ⟨rfl, .inl rfl⟩
  | start ms _ _ h => cases h <;> exact ⟨rfl, .inl rfl⟩
  | reset ms _ h => subst h; exact ⟨rfl, .inl rfl⟩
  | ran m m0 rest ms _ _ _ h =>
    cases h with
    | command _ op len addr h => cases h <;> exact ⟨rfl, .inl rfl⟩
    | linkReset => exact ⟨rfl, .inl rfl⟩
    | slot a dir lvl out samples free r => exact ⟨rfl, .inr ⟨r, rfl⟩⟩
    | line | lock => exact ⟨rfl, .inl rfl⟩
    | stores d => cases d <;> exact ⟨rfl, .inl rfl⟩
    | completes => exact ⟨rfl, .inl rfl⟩
    | plans h => rw [h.frame]; exact ⟨rfl, .inl rfl⟩

end Sys2Proof.Machine

/-! R115, R201: the error flags change nothing but at the decision after an attempt's frames. -/

namespace Sys2Proof.Machine

open Sys2Proof

/-- The state with other error flags, and with the two elements that are taken from them: PRES and RESULT. -/
def State.withErrors (s : State) (l c p r : Bool) : State := { s with lerr := l, cerr := c, pres := p, result := r }

/-- From `s` with any errors, `f` answers the state `t` but for the errors; PRES and RESULT are not taken from them. -/
def IgnoresErrors (f : State → Result) (s t : State) : Prop :=
  ∀ l c p r, ∃ l' c' p' r', f (s.withErrors l c p r) = .next (t.withErrors l' c' p' r') ∧
    (p = s.pres → p' = t.pres) ∧ (r = s.result → r' = t.result)

/-- What writes none of the four elements ignores the errors. -/
theorem IgnoresErrors.of_commutes {f : State → Result} {s t : State}
    (h : ∀ l c p r, f (s.withErrors l c p r) = .next (t.withErrors l c p r)) (hp : t.pres = s.pres)
    (hr : t.result = s.result) : IgnoresErrors f s t :=
  fun l c p r => ⟨l, c, p, r, h l c p r, fun e => e.trans hp.symm, fun e => e.trans hr.symm⟩

/-- What sets one of the error flags and writes neither PRES nor RESULT ignores the errors. -/
theorem IgnoresErrors.of_flags {f : State → Result} {s t : State} (flags : Bool → Bool → Bool × Bool)
    (h : ∀ l c p r, f (s.withErrors l c p r) = .next (t.withErrors (flags l c).1 (flags l c).2 p r)) (hp : t.pres = s.pres)
    (hr : t.result = s.result) : IgnoresErrors f s t :=
  fun l c p r => ⟨_, _, p, r, h l c p r, fun e => e.trans hp.symm, fun e => e.trans hr.symm⟩

/-- What completes with a RESULT of its own ignores the errors. -/
theorem IgnoresErrors.of_result {f : State → Result} {s t : State} (b : Bool)
    (h : ∀ l c p r, f (s.withErrors l c p r) = .next (t.withErrors l c p b)) (hp : t.pres = s.pres)
    (hr : t.result = b) : IgnoresErrors f s t :=
  fun l c p r => ⟨l, c, p, b, h l c p r, fun e => e.trans hp.symm, fun _ => hr.symm⟩

/-- The environment answers alike whatever the errors are. -/
theorem State.answered_withErrors (s : State) (l c p r : Bool) :
    (s.withErrors l c p r).answered = s.answered.withErrors l c p r := by
  unfold State.answered
  cases h : s.samples <;> simp [State.withErrors, h]

/-- A sample ignores the errors (R94). -/
theorem takeSample_ignoresErrors {s t : State} (h : s.takeSample = .next t) : IgnoresErrors State.takeSample s t := by
  obtain ⟨hd, rfl⟩ := (State.takeSample_eq_next_iff ..).mp h
  refine .of_commutes (fun l c p r => ?_) (by simp) (by simp)
  rw [State.takeSample_eq_next_iff, State.answered_withErrors]
  exact ⟨hd, rfl⟩

/-- The action of a slot ignores the errors (R91). -/
theorem slotAction_ignoresErrors {a : SlotAct} {s t : State} (h : slotAction a s = .next t) :
    IgnoresErrors (slotAction a) s t := by
  cases a with
  | sample =>
    simp only [slotAction] at h
    split at h <;> cases h
    next u hu =>
      intro l c p r
      obtain ⟨l', c', p', r', ht, hp, hr⟩ := takeSample_ignoresErrors hu l c p r
      exact ⟨l', c', p', r', by simp only [slotAction, ht]; rfl, hp, hr⟩
  | high => cases h; exact .of_commutes (fun _ _ _ _ => rfl) rfl rfl
  | low => cases h; exact .of_commutes (fun _ _ _ _ => rfl) rfl rfl
  | release => cases h; exact .of_commutes (fun _ _ _ _ => rfl) rfl rfl
  | idle => cases h; exact .of_commutes (fun _ _ _ _ => rfl) rfl rfl

/-- A slot ignores the errors. -/
theorem execSlot_ignoresErrors {a : SlotAct} {s t : State} (h : execSlot a s = .next t) :
    IgnoresErrors (execSlot a) s t := by
  cases hp : s.tickPending with
  | false =>
    rw [execSlot_waits a s hp] at h
    cases h
    exact .of_commutes (fun l c p r => execSlot_waits a (s.withErrors l c p r) hp) rfl rfl
  | true =>
    rw [execSlot_pending a s hp] at h
    intro l c p r
    rw [execSlot_pending a (s.withErrors l c p r) hp]
    exact slotAction_ignoresErrors h l c p r

/-- A host operation begins whatever the errors are (R160). -/
theorem hostStart_ignoresErrors (s : State) : IgnoresErrors (fun s => .next s.hostStart) s s.hostStart := by
  rcases opCode_cases s.op with h | h | h | h
  · rw [State.hostStart_presence h]
    exact .of_commutes (fun l c p r => congrArg _ (State.hostStart_presence (s := s.withErrors l c p r) h)) rfl rfl
  · by_cases hl : s.len = 0#8
    · rw [State.hostStart_zeroLength (.inl h) hl]
      exact .of_result false (fun l c p r => congrArg _ (State.hostStart_zeroLength (s := s.withErrors l c p r) (.inl h) hl)) rfl rfl
    · rw [State.hostStart_read h hl]
      exact .of_commutes (fun l c p r => congrArg _ (State.hostStart_read (s := s.withErrors l c p r) h hl)) rfl rfl
  · by_cases hl : s.len = 0#8
    · rw [State.hostStart_zeroLength (.inr h) hl]
      exact .of_result false (fun l c p r => congrArg _ (State.hostStart_zeroLength (s := s.withErrors l c p r) (.inr h) hl)) rfl rfl
    · rw [State.hostStart_write h hl]
      exact .of_commutes (fun l c p r => congrArg _ (State.hostStart_write (s := s.withErrors l c p r) h hl)) rfl rfl
  · rw [State.hostStart_standby h]
    exact .of_commutes (fun l c p r => congrArg _ (State.hostStart_standby (s := s.withErrors l c p r) h)) rfl rfl

/-- The pulse of START ignores the errors. -/
theorem tryStart_ignoresErrors {s t : State} (h : s.tryStart = .next t) : IgnoresErrors State.tryStart s t := by
  obtain ⟨hb, rfl⟩ := (State.tryStart_eq_next_iff ..).mp h
  intro l c p r
  rw [(State.tryStart_eq_next_iff (s.withErrors l c p r) _).mpr ⟨hb, rfl⟩]
  exact hostStart_ignoresErrors s l c p r

/-- A command is the pulse of START with its registers written. -/
theorem State.command_eq_tryStart (s : State) (op : BitVec 2) (len : Byte) (addr : Half) :
    s.command op len addr = { s with op := op, len := len, addr := addr }.tryStart := rfl

/-- A host command ignores the errors. -/
theorem command_ignoresErrors {op : BitVec 2} {len : Byte} {addr : Half} {s t : State}
    (h : s.command op len addr = .next t) : IgnoresErrors (fun s => s.command op len addr) s t := by
  rw [State.command_eq_tryStart] at h
  exact tryStart_ignoresErrors h

/-- An operation ignores the errors. -/
theorem exec_ignoresErrors {i : Instr} {s t : State} (h : exec i s = .next t) : IgnoresErrors (exec i) s t := by
  cases i with
  | slot a => exact execSlot_ignoresErrors h
  | sample => exact takeSample_ignoresErrors h
  | linkreset => cases h; exact .of_flags (fun _ _ => (false, false)) (fun _ _ _ _ => rfl) rfl rfl
  | presence len addr => exact command_ignoresErrors h
  | read len addr => exact command_ignoresErrors h
  | write len addr => exact command_ignoresErrors h
  | standby len addr => exact command_ignoresErrors h
  | start => exact tryStart_ignoresErrors h
  | waittick =>
    simp only [exec, execWaittick] at h
    split at h <;> cases h
    next hp => exact .of_commutes (fun _ _ _ _ => if_pos hp) rfl rfl
    next hp => exact .of_commutes (fun _ _ _ _ => if_neg hp) rfl rfl
  | readcore d => cases h; cases d <;> exact .of_commutes (fun _ _ _ _ => rfl) rfl rfl
  | _ => cases h; exact .of_commutes (fun _ _ _ _ => rfl) rfl rfl

/-- The store of a received byte ignores the errors: it is made, error or not (R136). -/
theorem zeroReadNext_ignoresErrors {d : Dest} {s t : State} (h : zeroReadNext d s = .next t) :
    IgnoresErrors (zeroReadNext d) s t := by
  have hi := idx_lt_of_zeroReadNext h
  rw [zeroReadNext_eq hi] at h
  have answer (l c p r : Bool) := zeroReadNext_eq (s := s.withErrors l c p r) (d := d) hi
  split at h <;> cases h
  next hmak => cases d <;> exact .of_commutes (fun l c p r => (answer l c p r).trans (congrArg _ (if_pos hmak))) rfl rfl
  next hmak => cases d <;> exact .of_commutes (fun l c p r => (answer l c p r).trans (congrArg _ (if_neg hmak))) rfl rfl

/-- A step that goes on as a condition has it, where the condition holds. -/
theorem next_of_pos {c : Prop} [Decidable c] {a b : State} (hc : c) :
    (Host.Outcome.next (if c then a else b) : Result) = .next a :=
  congrArg _ (if_pos hc)

/-- A step that goes on as a condition has it, where the condition fails. -/
theorem next_of_neg {c : Prop} [Decidable c] {a b : State} (hc : ¬c) :
    (Host.Outcome.next (if c then a else b) : Result) = .next b :=
  congrArg _ (if_neg hc)

/-- A zero-time step that is not a decision taken from CERR ignores the errors, but for the latch of PRES and the end of
PRESENCE, which hand an error on to PRES and to RESULT (R133, R162). -/
theorem runZero_ignoresErrors {z : ZeroStep} {s t : State} (hz : z.decides = false) (hl : z ≠ .latchPres)
    (hf : z ≠ .finishPresence) (h : runZero z s = .next t) : IgnoresErrors (runZero z) s t := by
  cases z with
  | latchPres => exact absurd rfl hl
  | finishPresence => exact absurd rfl hf
  | readDecide d => cases hz
  | writeDecide => cases hz
  | hold =>
    simp only [runZero, zeroHold] at h
    split at h <;> cases h
    next hc => exact .of_commutes (fun _ _ _ _ => next_of_pos hc) rfl rfl
    next hc => exact .of_commutes (fun _ _ _ _ => next_of_neg hc) rfl rfl
  | judge =>
    cases h
    exact .of_flags (fun l c => (lerrAfter l (judgePair s.params s.s1 s.s2), c)) (fun _ _ _ _ => rfl) rfl rfl
  | slaveCheck =>
    cases h
    exact .of_flags (fun l c => (l, cerrAfterSlave c s.bitres)) (fun _ _ _ _ => rfl) rfl rfl
  | escalate =>
    cases h
    exact .of_flags (fun l c => (l, cerrAfterEscalation c l)) (fun _ _ _ _ => rfl) rfl rfl
  | readByte d =>
    simp only [runZero, zeroReadByte] at h
    split at h <;> cases h
    next hc => exact .of_commutes (fun _ _ _ _ => next_of_pos hc) rfl rfl
    next hc => exact .of_commutes (fun _ _ _ _ => next_of_neg hc) rfl rfl
  | readNext d => exact zeroReadNext_ignoresErrors h
  | writeByte =>
    simp only [runZero, zeroWriteByte] at h
    split at h
    next hc =>
      split at h <;> cases h
      next v hv =>
        refine .of_commutes (fun l c p r => (if_pos hc).trans ?_) rfl rfl
        rw [State.withErrors, hv]
        rfl
    next hc => cases h; exact .of_commutes (fun _ _ _ _ => if_neg hc) rfl rfl
  | writeNext =>
    simp only [runZero, zeroWriteNext] at h
    split at h <;> cases h
    next hc => exact .of_commutes (fun _ _ _ _ => next_of_pos hc) rfl rfl
    next hc => exact .of_commutes (fun _ _ _ _ => next_of_neg hc) rfl rfl
  | pollTest =>
    simp only [runZero, zeroPollTest] at h
    split at h
    next hc => cases h; exact .of_commutes (fun _ _ _ _ => next_of_pos hc) rfl rfl
    next hc =>
      split at h <;> cases h
      next hk => exact .of_flags (fun l _ => (l, true)) (fun _ _ _ _ => (next_of_neg hc).trans (next_of_pos hk)) rfl rfl
      next hk => exact .of_commutes (fun _ _ _ _ => (next_of_neg hc).trans (next_of_neg hk)) rfl rfl
  | readAttempt d =>
    simp only [runZero, zeroReadAttempt] at h
    split at h <;> cases h
    next hc => cases d <;> exact .of_commutes (fun _ _ _ _ => next_of_pos hc) rfl rfl
    next hc => cases d <;> exact .of_commutes (fun _ _ _ _ => next_of_neg hc) rfl rfl
  | compare =>
    simp only [runZero, zeroCompare] at h
    split at h <;> cases h
    next eq he =>
      refine .of_commutes (fun l c p r => ?_) rfl rfl
      simp only [runZero, zeroCompare, State.withErrors, he]
      rfl
  | writeAttempt =>
    simp only [runZero, zeroWriteAttempt] at h
    split at h <;> cases h
    next hc => exact .of_commutes (fun _ _ _ _ => next_of_pos hc) rfl rfl
    next hc => exact .of_result false (fun _ _ _ _ => next_of_neg hc) rfl rfl
  | verifyDecide =>
    simp only [runZero, zeroVerifyDecide] at h
    split at h <;> cases h
    next hc => exact .of_result true (fun _ _ _ _ => next_of_pos hc) rfl rfl
    next hc => exact .of_commutes (fun _ _ _ _ => next_of_neg hc) rfl rfl
  | finishRead => cases h; exact .of_result s.callOk (fun _ _ _ _ => rfl) rfl rfl
  | _ => cases h; exact .of_commutes (fun _ _ _ _ => rfl) rfl rfl

/-- One position of the plan ignores the errors. -/
theorem runMicro_ignoresErrors {m : Micro} {s t : State} (hz : ∀ z, m = .act z → z.decides = false)
    (hl : m ≠ .act .latchPres) (hf : m ≠ .act .finishPresence) (h : runMicro m s = .next t) :
    IgnoresErrors (runMicro m) s t := by
  cases m with
  | op i => exact exec_ignoresErrors h
  | act z => exact runZero_ignoresErrors (hz z rfl) (fun e => hl (e ▸ rfl)) (fun e => hf (e ▸ rfl)) h
  | word nbits w =>
    simp only [runMicro, runWord] at h
    split at h
    next i hi =>
      intro l c p r
      obtain ⟨l', c', p', r', he, hp, hr⟩ := exec_ignoresErrors h l c p r
      exact ⟨l', c', p', r', by simp only [runMicro, runWord, hi, he], hp, hr⟩
    next => cases h

/-- Settles O54: a position of the plan answers the same but for the errors (`runMicro_ignoresErrors`), a tick does not look at
them, and the latch of PRES and the end of PRESENCE hand them on to PRES and RESULT only. -/
theorem errorsNeverChangeTheSlots : Obligations.ErrorsNeverChangeTheSlots := by
  unfold Obligations.ErrorsNeverChangeTheSlots
  intro s t m rest l c p r hs hp hz h
  have answers {t' : State} {l' c' p' r' : Bool} (ht : step (s.withErrors l c p r) = .next t')
      (he : t' = t.withErrors l' c' p' r') (hp' : p = s.pres → m ≠ .act .latchPres → p' = t.pres)
      (hr' : r = s.result → m ≠ .act .finishPresence → r' = t.result) :
      ∃ t', step { s with lerr := l, cerr := c, pres := p, result := r } = .next t' ∧
        t' = { t with lerr := t'.lerr, cerr := t'.cerr, pres := t'.pres, result := t'.result } ∧
        (p = s.pres → m ≠ .act .latchPres → t'.pres = t.pres) ∧
        (r = s.result → m ≠ .act .finishPresence → t'.result = t.result) := by
    subst he
    exact ⟨_, ht, rfl, hp', hr'⟩
  cases hw : waiting s with
  | true =>
    have waits (s : State) (hs : s.schedule = []) (hw : waiting s = true) :
        step s = .next (if s.tickOn then s.deliverTick else s) := by
      rw [step, hs, defaultMove, hw]
      cases s.tickOn <;> rfl
    rw [waits s hs hw, Host.Outcome.next.injEq] at h
    subst h
    have same : (if s.tickOn then s.deliverTick else s).pres = s.pres ∧
        (if s.tickOn then s.deliverTick else s).result = s.result := by
      cases s.tickOn <;> exact ⟨rfl, rfl⟩
    refine answers (l' := l) (c' := c) (p' := p) (r' := r) (waits (s.withErrors l c p r) hs hw) ?_
      (fun e _ => e.trans same.1.symm) (fun e _ => e.trans same.2.symm)
    cases ho : s.tickOn <;> simp [State.withErrors, ho, State.deliverTick]
  | false =>
    rw [step_runs hs hp hw] at h
    have step_eq := step_runs (s := s.withErrors l c p r) hs hp hw
    by_cases hl : m = .act .latchPres
    · subst hl
      cases h
      exact answers (step_eq.trans rfl) (l' := l) (c' := c) (p' := !c) (r' := r) rfl (fun _ h => absurd rfl h) fun e _ => e
    by_cases hf : m = .act .finishPresence
    · subst hf
      cases h
      exact answers (step_eq.trans rfl) (l' := l) (c' := c) (p' := p) (r' := p) rfl (fun e _ => e) fun _ h => absurd rfl h
    obtain ⟨l', c', p', r', he, hp', hr'⟩ := runMicro_ignoresErrors hz hl hf h l c p r
    exact answers (step_eq.trans he) rfl (fun e _ => hp' e) (fun e _ => hr' e)

end Sys2Proof.Machine

/-! The encodings of `30_encoding.md`: the decoder takes an encoded instruction back, and every host command word is one. -/

namespace Sys2Proof

/-! ### The decoder on a word that fits its width -/

/-- R64, R117: the byte frames the block transmits. -/
theorem decode_byteframeTx {w aux : Nat} (h : w < 1024) : decode ⟨.byteframeTx, 10, w, aux⟩ = decodeByteframeTx w aux :=
  if_neg (Nat.not_le_of_lt h)

/-- R135: an addressed part of two bytes, or of four. -/
theorem decode_framePart {width w aux : Nat} (h : w < 2 ^ width) :
    decode ⟨.framePart, width, w, aux⟩ = decodeAddressed width w :=
  if_neg (Nat.not_le_of_lt h)

/-- R79: a host command word. -/
theorem decode_hostop {w aux : Nat} (h : w < 67108864) : decode ⟨.hostop, 26, w, aux⟩ = .ok (decodeHostop w) :=
  if_neg (Nat.not_le_of_lt h)

/-- R66: a slave acknowledge cell. -/
theorem decode_ackSlave {w aux : Nat} (h : w < 4) :
    decode ⟨.ackSlave, 2, w, aux⟩ = if w = 2 then .ok .sak else .error .missingAcknowledge :=
  if_neg (Nat.not_le_of_lt h)

/-- R74: a byte with a fixed position in a frame. -/
theorem decode_byte {w aux : Nat} (h : w < 256) : decode ⟨.byte, 8, w, aux⟩ = decodeByte w :=
  if_neg (Nat.not_le_of_lt h)

/-! ### Instructions with operands in their words -/

/-- R64: the byte a transmitted frame carries stands above its acknowledge bits. -/
theorem decode_encode_txbyte (v : Byte) : decode (encode (.txbyte v)) = .ok (.txbyte v) := by
  have byte : BitVec.ofNat 8 (v.toNat * 4 / 4) = v := by simp
  refine (decode_byteframeTx (Laws.Encoded.txbyte v) (aux := 0)).trans ?_
  rw [decodeByteframeTx, if_pos rfl, encode, byte]

/-- R135: a command byte and its acknowledge, read back from an addressed part without the address. -/
theorem decodeAddressed_short {w : Nat} {c : Byte} {mc : Bool} (h : (Instr.addressed c mc false).wf = true)
    (hw : w = 0x141 * 2048 + c.toNat * 4 + (if mc then 2 else 0)) :
    decodeAddressed 20 w = .ok (.addressed c mc false) := by
  have device : w / 2048 = 0x141 := by split at hw <;> omega
  have command : BitVec.ofNat 8 (w / 4) = c := by
    apply BitVec.eq_of_toNat_eq
    rw [BitVec.toNat_ofNat]
    split at hw <;> omega
  have mak : (w / 2 % 2 == 1) = mc := by
    rw [beq_eq_decide]
    cases mc <;> simp at hw ⊢ <;> omega
  rw [decodeAddressed, if_pos rfl, command, mak]
  exact if_pos ⟨device, h⟩

/-- R135: the same with the address, whose two acknowledges are MAK. -/
theorem decodeAddressed_long {w : Nat} {c : Byte} {mc : Bool} (h : (Instr.addressed c mc true).wf = true)
    (hw : w = 0x141 * 2147483648 + c.toNat * 4194304 + (if mc then 2097152 else 0) + 2048 + 2) :
    decodeAddressed 40 w = .ok (.addressed c mc true) := by
  have device : w / 2147483648 = 0x141 := by split at hw <;> omega
  have command : BitVec.ofNat 8 (w / 4194304) = c := by
    apply BitVec.eq_of_toNat_eq
    rw [BitVec.toNat_ofNat]
    split at hw <;> omega
  have mak : (w / 2097152 % 2 == 1) = mc := by
    rw [beq_eq_decide]
    cases mc <;> simp at hw ⊢ <;> omega
  have high : w / 2048 % 2 = 1 := by split at hw <;> omega
  have low : w / 2 % 2 = 1 := by split at hw <;> omega
  rw [decodeAddressed, if_neg (by decide), if_pos rfl, command, mak]
  exact if_pos ⟨device, high, low, h⟩

/-- An addressed part, with or without the address, is read back. -/
theorem decode_encode_addressed {c : Byte} {mc withAddr : Bool} (h : (Instr.addressed c mc withAddr).wf = true) :
    decode (encode (.addressed c mc withAddr)) = .ok (.addressed c mc withAddr) := by
  have fits := Laws.Encoded.addressed c mc withAddr
  cases withAddr with
  | false => exact (decode_framePart fits).trans (decodeAddressed_short h rfl)
  | true => exact (decode_framePart fits).trans (decodeAddressed_long h rfl)

/-- R79: the three fields of a command word. -/
theorem hostWord_fields (op : Nat) (len : Byte) (addr : Half) :
    (op * 16777216 + len.toNat * 65536 + addr.toNat) / 16777216 = op ∧
      BitVec.ofNat 8 ((op * 16777216 + len.toNat * 65536 + addr.toNat) / 65536) = len ∧
      BitVec.ofNat 16 (op * 16777216 + len.toNat * 65536 + addr.toNat) = addr := by
  refine ⟨by omega, BitVec.eq_of_toNat_eq ?_, BitVec.eq_of_toNat_eq ?_⟩ <;>
  · rw [BitVec.toNat_ofNat]
    omega

/-- R79: a word is made of its three fields. -/
theorem hostCode_fields {w : Nat} :
    hostCode (w / 16777216) (BitVec.ofNat 8 (w / 65536)) (BitVec.ofNat 16 w) = ⟨.hostop, 26, w, 0⟩ := by
  have word : w / 16777216 * 16777216 + w / 65536 % 2 ^ 8 * 65536 + w % 2 ^ 16 = w := by omega
  rw [hostCode, BitVec.toNat_ofNat, BitVec.toNat_ofNat, word]

/-- R79: a command word decodes to the operation of its code, with its length and its address. -/
theorem decodeHostop_word (op : Nat) (len : Byte) (addr : Half) :
    decodeHostop (op * 16777216 + len.toNat * 65536 + addr.toNat) =
      if op = 0 then .presence len addr else if op = 1 then .read len addr
      else if op = 2 then .write len addr else .standby len addr := by
  obtain ⟨ho, hl, ha⟩ := hostWord_fields op len addr
  rw [decodeHostop, ho, hl, ha]

/-- R79: the word of a host operation is read back. -/
theorem decode_hostCode {op : Nat} {len : Byte} {addr : Half} {i : Instr}
    (fits : (hostCode op len addr).word < 67108864)
    (hi : (if op = 0 then Instr.presence len addr else if op = 1 then .read len addr
      else if op = 2 then .write len addr else .standby len addr) = i) :
    decode (hostCode op len addr) = .ok i := by
  rw [← hi, ← decodeHostop_word]
  exact decode_hostop fits

/-- Settles O48: an instruction without operands, or with operands of few values, is read back by evaluation; the byte of a
frame, the header of an addressed part and the fields of a command word are read back for every value. -/
theorem decodeOfEncode : Obligations.DecodeOfEncode := by
  unfold Obligations.DecodeOfEncode
  intro i h
  cases i with
  | slot a => cases a <;> rfl
  | txbit b => cases b <;> rfl
  | txbyte v => exact decode_encode_txbyte v
  | ackx check => cases check <;> rfl
  | addressed c mc withAddr => exact decode_encode_addressed h
  | fRead d => cases d <;> rfl
  | presence len addr => exact decode_hostCode (Laws.Encoded.presence len addr) rfl
  | read len addr => exact decode_hostCode (Laws.Encoded.read len addr) rfl
  | write len addr => exact decode_hostCode (Laws.Encoded.write len addr) rfl
  | standby len addr => exact decode_hostCode (Laws.Encoded.standby len addr) rfl
  | readcore d => cases d <;> rfl
  | _ => rfl

/-- Settles O49: a command word decodes by its operation code (`decode_hostop`), which takes only four values, and is made of the
fields it was decoded to (`hostCode_fields`). -/
theorem hostCommandWordsAreAssigned : Obligations.HostCommandWordsAreAssigned := by
  unfold Obligations.HostCommandWordsAreAssigned
  intro w h
  refine ⟨_, decode_hostop h, ?_⟩
  rw [← hostCode_fields (w := w)]
  have codes : w / 16777216 = 0 ∨ w / 16777216 = 1 ∨ w / 16777216 = 2 ∨ w / 16777216 = 3 := by omega
  rcases codes with h | h | h | h <;> simp [decodeHostop, h, encode]

/-- Settles O50: the nine words are evaluated; a word that is none of those a format assigns is refused. -/
theorem writtenOutWordsDecode : Obligations.WrittenOutWordsDecode := by
  unfold Obligations.WrittenOutWordsDecode
  refine ⟨rfl, rfl, rfl, rfl, rfl, rfl, rfl, rfl, rfl, fun aux w h => ?_, fun aux w h h2 => ?_,
    fun aux w h h1 h2 h3 h4 h5 h6 => ?_⟩
  · rcases h with rfl | rfl <;> rfl
  · rw [decode_ackSlave h, if_neg h2]
  · rw [decode_byte h, decodeByte, if_neg h1, if_neg h2, if_neg h3, if_neg h4, if_neg h5, if_neg h6]

end Sys2Proof

/-! One step at a time: reset, the slot primitives, the decision points, the start of an operation, the host's accesses and the
tick source. -/

namespace Sys2Proof.Machine

open Sys2Proof

/-! ### The moves of a step -/

/-- A scheduled move is the step. -/
theorem step_scheduled {s : State} {m : Move} {ms : List Move} (hs : s.schedule = m :: ms) :
    step s = agentMove m { s with schedule := ms } := by
  rw [step, hs]

/-- A scheduled act of the host is the step. -/
theorem step_host {s : State} {a : HostAction} {ms : List Move} (hs : s.schedule = .host a :: ms) :
    step s = hostAct a { s with schedule := ms } :=
  step_scheduled hs

/-- A move given to the sequencer runs the head of its plan. -/
theorem step_sequencer {s : State} {m : Micro} {rest : List Micro} {ms : List Move} (hs : s.schedule = .sequencer :: ms)
    (hp : s.plan = m :: rest) : step s = runMicro m { s with plan := rest, schedule := ms } := by
  rw [step_scheduled hs, agentMove, seqStep]
  dsimp only
  rw [hp]

/-- With nothing scheduled a zero-time step at the head of the plan is the step. -/
theorem step_act {s : State} {z : ZeroStep} {rest : List Micro} (hs : s.schedule = []) (hp : s.plan = .act z :: rest) :
    step s = runZero z { s with plan := rest } :=
  step_runs hs hp (by rw [waiting, hp])

/-! ### Reset (R32, R230) -/

/-- Settles O1: the values stand in `State.reset`. -/
theorem resetGivesTheTable : Obligations.ResetGivesTheTable :=
  ⟨rfl, rfl, rfl, rfl, rfl⟩

/-- Settles O2: the step is the host's RESET (`step_host`), and the values stand in `State.hardReset`. -/
theorem runningResetGivesTheTable : Obligations.RunningResetGivesTheTable := by
  unfold Obligations.RunningResetGivesTheTable
  intro s ms hs
  have empty (d : Dest) (i : Nat) : (({ s with schedule := ms }.hardReset).buffer d).read i = none := by cases d <;> rfl
  exact ⟨_, step_host hs, rfl, rfl, rfl, rfl, rfl, rfl, empty, rfl, rfl, rfl, rfl, rfl, rfl, rfl⟩

/-- R6: the values taken for the parameters last R5's minimum times at every bit period R5 allows. -/
theorem defaultParams_legal {tBit : Nat} (hmin : 10000 ≤ tBit) (hmax : tBit ≤ 100000) :
    Config.defaultParams.legal tBit = true := by
  have period : Config.bitPeriodLegal tBit = true := by
    simp [Config.bitPeriodLegal, Config.T_BIT_MIN, Config.T_BIT_MAX, hmin, hmax]
  have quiet : Config.lasts 4 tBit Config.T_QUIET_MIN = true :=
    decide_eq_true (by simp only [Config.T_QUIET_MIN, Config.TICKS_PER_BIT]; omega)
  have hold : Config.lasts 2 tBit Config.T_HDR_MIN = true :=
    decide_eq_true (by simp only [Config.T_HDR_MIN, Config.TICKS_PER_BIT]; omega)
  have pulse : Config.lasts 240 tBit Config.T_STBY_MIN = true :=
    decide_eq_true (by simp only [Config.T_STBY_MIN, Config.TICKS_PER_BIT]; omega)
  simp only [Config.Params.legal, Config.defaultParams, period, quiet, hold, pulse, Bool.and_true]
  rfl

/-- Settles O3: the reset state is idle with empty buffers, and the parameters are legal (`defaultParams_legal`). -/
theorem resetMeetsTheInvariants : Obligations.ResetMeetsTheInvariants := by
  unfold Obligations.ResetMeetsTheInvariants
  refine ⟨?_, .of_idle rfl rfl rfl rfl, rfl, fun tBit => defaultParams_legal, defaultParams_legal le_rfl (by decide)⟩
  rw [inRange_iff]
  exact ⟨.idle (Nat.zero_le 16), rfl, rfl⟩

/-! ### Slot primitives (R90 to R95) -/

/-- R90: with none pending a wait, or a slot, at the head of the plan is put back. -/
theorem runMicro_waits {s : State} {i : Instr} (hi : i = .waittick ∨ ∃ a, i = .slot a) (ht : s.tickPending = false) :
    runMicro (.op i) s = .next (s.push [.op i]) := by
  rcases hi with rfl | ⟨a, rfl⟩
  · exact if_neg (by simp [ht])
  · exact execSlot_waits a s ht

/-- R90: with none pending the sequencer waits at it. -/
theorem waiting_of_wait {s : State} {i : Instr} {rest : List Micro} (hi : i = .waittick ∨ ∃ a, i = .slot a)
    (hp : s.plan = .op i :: rest) : waiting s = !s.tickPending := by
  rcases hi with rfl | ⟨a, rfl⟩ <;> rw [waiting, hp]

/-- Settles O4: a pending tick is consumed; with none, the sequencer waits (`waiting_of_wait`), so that the step is the tick
source's, and a move given to the sequencer puts the position back (`runMicro_waits`). -/
theorem waittickWaitsForATick : Obligations.WaittickWaitsForATick := by
  unfold Obligations.WaittickWaitsForATick
  refine ⟨fun s ht => if_pos ht, fun s i rest hi hp ht => ?_⟩
  have hw : waiting s = true := by rw [waiting_of_wait hi hp, ht]; rfl
  refine ⟨fun hs ho => ?_, fun hs ho => ?_, fun ms hs => ?_⟩
  · rw [step, hs, defaultMove, hw, ho]
    rfl
  · rw [step_ticks hs ho hw, State.deliverTick, ht, ho]
    rfl
  · rw [step_sequencer hs hp, runMicro_waits (s := { s with plan := rest, schedule := ms }) hi ht, State.push,
      List.singleton_append, ← hp]

/-- R94: with the line released a sample is the environment's next answer. -/
theorem State.takeSample_released {s : State} (h : s.dir = .input) :
    s.takeSample = .next { s with sampleOut := s.lineLevel, samples := s.answered.samples, free := s.answered.free } := by
  rw [(State.takeSample_eq_next_iff ..).mpr ⟨h, rfl⟩, State.answered_frame]

/-- Settles O5: with its tick pending a slot is its action in the state without the tick (`execSlot_pending`). -/
theorem slotTakesOneTickAndActs : Obligations.SlotTakesOneTickAndActs := by
  unfold Obligations.SlotTakesOneTickAndActs
  intro s ht
  have acts (a : SlotAct) : exec (.slot a) s = slotAction a s.clearTick := execSlot_pending a s ht
  refine ⟨acts _, acts _, acts _, acts _, fun hd => ?_, fun hd => ?_⟩
  · have same : SameAnswers s.clearTick s := ⟨rfl, rfl⟩
    rw [acts, slotAction, State.takeSample_released (s := s.clearTick) hd, same.lineLevel, same.answered.1, same.answered.2]
    rfl
  · rw [acts, slotAction, State.takeSample_driving s.clearTick hd]

/-- Settles O7: both rows are the state's own update. -/
theorem noactionAndCleartick : Obligations.NoactionAndCleartick := by
  unfold Obligations.NoactionAndCleartick
  exact fun s => ⟨rfl, rfl⟩

/-- Settles O8: SAMPLE is the state's sample, taken while the line is released and refused while it is driven. -/
theorem sampleAnswersTheLine : Obligations.SampleAnswersTheLine := by
  unfold Obligations.SampleAnswersTheLine
  refine fun s => ⟨State.takeSample_released, State.takeSample_driving s, fun l ls hl => ?_⟩
  rw [State.lineLevel, State.answered, hl]
  exact ⟨rfl, rfl, rfl⟩

/-! ### The bits of a byte as received pairs (R62, R100) -/

/-- A byte is the number whose binary digits are its bits. -/
theorem ofNat_bits (v : Byte) :
    BitVec.ofNat 8 ((bitsOf v).foldl (fun a b => 2 * a + b.toNat) 0) = v := by
  have digit (i : Nat) : (v.getLsbD i).toNat = v.toNat / 2 ^ i % 2 := Nat.toNat_testBit v.toNat i
  have lt := v.isLt
  apply BitVec.eq_of_toNat_eq
  simp only [bitsOf, List.foldl, digit]
  rw [BitVec.toNat_ofNat]
  generalize v.toNat = n at *
  norm_num
  omega

/-- Pairs that read as the bits of a byte, received one after the other, are that byte. -/
theorem byteOfPairs_bits {p : Config.Params} {pair : Bit → Level × Level} (h : ∀ b, readsOne p (pair b) = b) (v : Byte) :
    byteOfPairs p ((bitsOf v).map pair) = v := by
  rw [byteOfPairs, List.foldl_map]
  simp only [h]
  exact ofNat_bits v

/-- The bits of the complement of a byte. -/
theorem bitsOf_not (v : Byte) : bitsOf (~~~v) = (bitsOf v).map not := by
  simp [bitsOf]

/-- Settles O15: with RX_ONE_PAIR = (1,0) the two half levels of a bit read as its complement, so a byte's bits are received as
those of its complement. -/
theorem loopBackReadsTheComplement : Obligations.LoopBackReadsTheComplement := by
  unfold Obligations.LoopBackReadsTheComplement
  refine ⟨fun b => by cases b <;> exact ⟨rfl, rfl, rfl⟩, fun v => ⟨?_, ?_⟩⟩
  · have back : (bitsOf v).map (fun b => (firstHalf b, secondHalf b)) =
        (bitsOf (~~~v)).map fun b => (firstHalf (!b), secondHalf (!b)) := by
      simp [bitsOf_not]
    rw [back]
    exact byteOfPairs_bits (fun b => by cases b <;> rfl) (~~~v)
  · rw [List.any_map, List.any_eq_false]
    intro b _
    cases b <;> decide

/-! ### The decision points (R170) and F_WRITE's payload -/

/-- Settles O29: the step runs the payload position, which finds no byte to send. -/
theorem unwrittenPayloadIsAFault : Obligations.UnwrittenPayloadIsAFault := by
  unfold Obligations.UnwrittenPayloadIsAFault
  intro s rest hs hp hi hb
  rw [step_act hs hp]
  refine (if_pos hi).trans ?_
  dsimp only
  rw [hb]

/-- R166, R168: while fewer than three have started, ReadCore makes another attempt and counts it. -/
theorem zeroReadAttempt_of_lt {s : State} {d : Dest} (h : s.readCount d < 3) :
    zeroReadAttempt d s =
      (s.setReadCount d (s.readCount d + 1)).push (attemptPlan [.op (.fRead d)] (.readDecide d)) :=
  if_pos h

/-- R166: after the third attempt ReadCore fills with zeros and answers false. -/
theorem zeroReadAttempt_of_le {s : State} {d : Dest} (h : 3 ≤ s.readCount d) :
    zeroReadAttempt d s = { s.setBuffer d ((s.buffer d).zeroFill s.n) with callOk := false } :=
  if_neg (Nat.not_lt_of_le h)

/-- The counter just replaced, and the other one. -/
theorem State.readCount_setReadCount (s : State) (d e : Dest) (k : Nat) :
    (s.setReadCount d k).readCount e = if e = d then k else s.readCount e := by
  cases d <;> cases e <;> rfl

/-- The counters do not depend on the plan. -/
@[simp] theorem State.readCount_withPlan (s : State) (ms : List Micro) (d : Dest) :
    { s with plan := ms }.readCount d = s.readCount d := by
  cases d <;> rfl

/-- The buffers do not depend on the plan. -/
@[simp] theorem State.buffer_withPlan (s : State) (ms : List Micro) (d : Dest) :
    { s with plan := ms }.buffer d = s.buffer d := by
  cases d <;> rfl

/-- The loop of ReadCore goes on, as a step: the attempt is counted and planned (R166). -/
theorem step_readAttempt_of_lt {s : State} {d : Dest} {rest : List Micro} (hs : s.schedule = [])
    (hp : s.plan = .act (.readAttempt d) :: rest) (h : s.readCount d < 3) :
    ∃ t, step s = .next t ∧ t.readCount d = s.readCount d + 1 ∧ (∀ e, e ≠ d → t.readCount e = s.readCount e) ∧
      t = { s with
        seq.att := t.seq.att, seq.vatt := t.seq.vatt
        plan := [.op .linkreset, .act (.lock true), .op (.fRead d), .act (.lock false), .act (.readDecide d)] ++ rest } := by
  have attempt := zeroReadAttempt_of_lt (s := { s with plan := rest }) (d := d) (by rwa [State.readCount_withPlan])
  refine ⟨_, (step_act hs hp).trans (congrArg Host.Outcome.next attempt), ?_, fun e he => ?_, ?_⟩
  · rw [State.push, State.readCount_withPlan, State.readCount_setReadCount, if_pos rfl, State.readCount_withPlan]
  · rw [State.push, State.readCount_withPlan, State.readCount_setReadCount, if_neg he, State.readCount_withPlan]
  · cases d <;> rfl

/-- The loop of ReadCore gives up, as a step: the zero fill (R166). -/
theorem step_readAttempt_of_le {s : State} {d : Dest} {rest : List Micro} (hs : s.schedule = [])
    (hp : s.plan = .act (.readAttempt d) :: rest) (h : 3 ≤ s.readCount d) :
    ∃ t, step s = .next t ∧ (∀ i, (t.buffer d).read i = if i < s.n then some 0x00#8 else (s.buffer d).read i) ∧
      (∀ e, e ≠ d → t.buffer e = s.buffer e) ∧
      t = { s with buf := t.buf, vbuf := t.vbuf, callOk := false, plan := rest } := by
  have fill := zeroReadAttempt_of_le (s := { s with plan := rest }) (d := d) (by rwa [State.readCount_withPlan])
  have filled (e : Dest) :
      { { s with plan := rest }.setBuffer d (({ s with plan := rest }.buffer d).zeroFill s.n) with callOk := false }.buffer e =
        if e = d then (s.buffer d).zeroFill s.n else s.buffer e := by
    rw [← State.buffer_withPlan s rest, ← State.buffer_withPlan s rest, ← State.buffer_setBuffer]
    cases e <;> rfl
  refine ⟨_, (step_act hs hp).trans (congrArg Host.Outcome.next fill), fun i => ?_, fun e he => ?_, ?_⟩
  · rw [filled, if_pos rfl, Memory.read_zeroFill]
  · rw [filled, if_neg he]
  · cases d <;> rfl

/-- Settles O38: each decision is the step that runs its position (`step_act`), taken on the condition its table has. -/
theorem decisionsFollowTheTable : Obligations.DecisionsFollowTheTable := by
  unfold Obligations.DecisionsFollowTheTable
  intro s rest hs
  refine ⟨fun hp => ⟨fun hc => ?_, fun hc => ?_⟩, fun hp => ⟨fun hc => ?_, fun hc => ?_⟩,
    fun hp => ⟨fun hc => ?_, fun hc => ?_⟩, fun d hp => ⟨fun hc => ?_, fun hc => ?_⟩,
    fun d hp => ⟨step_readAttempt_of_lt hs hp, step_readAttempt_of_le hs hp⟩,
    fun hp => step_act hs hp, fun hp => step_act hs hp, fun hp => step_act hs hp⟩ <;> refine (step_act hs hp).trans ?_
  · exact next_of_pos hc
  · exact next_of_neg (by simp [hc])
  · exact next_of_pos hc
  · exact next_of_neg (by simp [hc])
  · exact next_of_pos hc
  · exact next_of_neg (Nat.not_lt_of_le hc)
  · exact next_of_pos hc
  · exact next_of_neg (by simp [hc])

/-! ### The start of a host operation (R160, R173, R174, R235) -/

/-- START answers the operation begun, in an idle block. -/
theorem exec_start_idle {s : State} (hb : s.busy = false) : exec .start s = .next s.hostStart :=
  (State.tryStart_eq_next_iff ..).mpr ⟨hb, rfl⟩

/-- A host command answers the operation of its registers begun, in an idle block. -/
theorem State.command_idle {s : State} (hb : s.busy = false) (op : BitVec 2) (len : Byte) (addr : Half) :
    s.command op len addr = .next { s with op := op, len := len, addr := addr }.hostStart :=
  (State.tryStart_eq_next_iff { s with op := op, len := len, addr := addr } _).mpr ⟨hb, rfl⟩

/-- Settles O40: START begins the operation of OP (`exec_start_idle`), whose beginning is one of `State.hostStart_presence`,
`State.hostStart_read`, `State.hostStart_write` and `State.hostStart_standby`. -/
theorem startBeginsTheOperation : Obligations.StartBeginsTheOperation := by
  unfold Obligations.StartBeginsTheOperation
  intro s hb
  refine ⟨fun ho => ?_, fun ho hl => ?_, fun ho hl => ?_, fun ho => ?_⟩ <;> rw [exec_start_idle hb]
  · rw [State.hostStart_presence ho]
    rfl
  · rw [State.hostStart_read ho hl]
    rfl
  · rw [State.hostStart_write ho hl]
    rfl
  · rw [State.hostStart_standby ho]
    rfl

/-- R161, R173: in an idle block a rejected operation leaves RESULT, LOCK, SEQ and N written, and nothing else. -/
theorem State.rejected_idle {s : State} (hb : s.busy = false) :
    { s with n := 0 }.complete (some false) = { s with n := 0, result := false, lock := false, seq := Seq.idle } := by
  cases s
  cases hb
  rfl

/-- R173: a READ or WRITE of no byte, begun in an idle block. -/
theorem State.hostStart_rejected {s : State} (hb : s.busy = false) (ho : s.op = 1#2 ∨ s.op = 2#2) (hl : s.len = 0#8) :
    s.hostStart = { s with n := 0, result := false, lock := false, seq := Seq.idle } :=
  (State.hostStart_zeroLength ho hl).trans (State.rejected_idle hb)

/-- Settles O41: a command and the pulse of START begin with the registers as they then are, and with LEN = 0 that is the
rejection of `State.hostStart_rejected`. -/
theorem zeroLengthIsRejected : Obligations.ZeroLengthIsRejected := by
  unfold Obligations.ZeroLengthIsRejected
  intro s addr hb
  have rejected (op : BitVec 2) (ho : op = 1#2 ∨ op = 2#2) :=
    State.hostStart_rejected (s := { s with op := op, len := 0#8, addr := addr }) hb ho rfl
  have command (op : BitVec 2) (ho : op = 1#2 ∨ op = 2#2) :=
    (State.command_idle hb op 0#8 addr).trans (congrArg _ (rejected op ho))
  have start (op : BitVec 2) (ho : op = 1#2 ∨ op = 2#2) :=
    (exec_start_idle (s := { s with op := op, len := 0#8, addr := addr }) hb).trans (congrArg _ (rejected op ho))
  exact ⟨command 1#2 (.inl rfl), command 2#2 (.inr rfl), start 1#2 (.inl rfl), start 2#2 (.inr rfl)⟩

/-- R78, R174: a length above 16 is clamped as 16 is. -/
theorem clampLen_of_lt {len : Byte} (h : 16 < len.toNat) : clampLen len = clampLen 16#8 :=
  Nat.min_eq_right (Nat.le_of_lt h)

/-- R78: what begins with a length of 0 begins with N = 0. -/
theorem clampLen_zero : clampLen 0#8 = 0 := (clampLen_eq_zero 0#8).mpr rfl

/-- A length above 16 is not 0. -/
theorem ne_zero_of_lt {len : Byte} (h : 16 < len.toNat) : len ≠ 0#8 := by
  rintro rfl
  exact absurd h (by decide)

/-- R174: a READ or WRITE begins with the clamped length. -/
theorem State.hostStart_n {s : State} (ho : s.op = 1#2 ∨ s.op = 2#2) : s.hostStart.n = clampLen s.len := by
  by_cases hl : s.len = 0#8
  · rw [State.hostStart_zeroLength ho hl, hl, clampLen_zero]
    rfl
  · rcases ho with ho | ho
    · rw [State.hostStart_read ho hl]
      rfl
    · rw [State.hostStart_write ho hl]
      rfl

/-- R174: with a length above 16 a READ or WRITE begins as with 16, in all but the register LEN. -/
theorem State.hostStart_clamped {s : State} (ho : s.op = 1#2 ∨ s.op = 2#2) (h : 16 < s.len.toNat) :
    { s with len := 16#8 }.hostStart = { s.hostStart with len := 16#8 } := by
  have hl := ne_zero_of_lt h
  have hl' : { s with len := 16#8 }.len ≠ 0#8 := by simp
  rcases ho with ho | ho
  · rw [State.hostStart_read ho hl, State.hostStart_read (s := { s with len := 16#8 }) ho hl', clampLen_of_lt h]
    rfl
  · rw [State.hostStart_write ho hl, State.hostStart_write (s := { s with len := 16#8 }) ho hl', clampLen_of_lt h]
    rfl

/-- Settles O42: both operations begin with the clamped length (`State.hostStart_n`), which is that of 16 above 16
(`State.hostStart_clamped`). -/
theorem lengthAboveSixteenIsSixteen : Obligations.LengthAboveSixteenIsSixteen := by
  unfold Obligations.LengthAboveSixteenIsSixteen
  intro s len addr hb
  have begins (op : BitVec 2) (ho : op = 1#2 ∨ op = 2#2) :
      ∃ t, s.command op len addr = .next t ∧ t.n = min len.toNat 16 ∧
        (16 < len.toNat → s.command op 16#8 addr = .next { t with len := 16#8 }) := by
    refine ⟨_, State.command_idle hb op len addr, State.hostStart_n ho, fun h => ?_⟩
    rw [State.command_idle hb op 16#8 addr]
    exact congrArg _ (State.hostStart_clamped (s := { s with op := op, len := len, addr := addr }) ho h)
  exact ⟨begins 1#2 (.inl rfl), begins 2#2 (.inr rfl)⟩

/-- A host command is refused in a busy block. -/
theorem State.command_busy {s : State} (hb : s.busy = true) (op : BitVec 2) (len : Byte) (addr : Half) :
    s.command op len addr = .refused .startWhileBusy :=
  if_pos hb

/-- Settles O43: the start of an operation, every host access and the configuration look at BUSY first. -/
theorem hostIsRefusedWhileBusy : Obligations.HostIsRefusedWhileBusy := by
  unfold Obligations.HostIsRefusedWhileBusy
  intro s hb
  refine ⟨fun len addr => ⟨if_pos hb, ?_, ?_, ?_, ?_⟩, fun ms hs => ?_, fun a ms hs => ⟨fun ha => ?_, fun ha => ?_⟩⟩
  · exact State.command_busy hb ..
  · exact State.command_busy hb ..
  · exact State.command_busy hb ..
  · exact State.command_busy hb ..
  · exact (step_host hs).trans (if_pos hb)
  · have refused (r : Result) : { s with schedule := ms }.whenIdle r = .refused .hostAccessWhileBusy := if_pos hb
    rw [step_host hs]
    rcases ha with ⟨v, rfl⟩ | ⟨v, rfl⟩ | ⟨v, rfl⟩ | ⟨i, v, rfl⟩ | ⟨i, rfl⟩ <;> exact refused _
  · obtain ⟨tBit, rfl⟩ := ha
    exact (step_host hs).trans (if_pos hb)

/-! ### The host's accesses to an idle block (R41, R219, R232) -/

/-- R41: while BUSY = 0 an access is made. -/
theorem State.whenIdle_idle {s : State} (hb : s.busy = false) (r : Result) : s.whenIdle r = r :=
  if_neg (by simp [hb])

/-- R41: the host reads a byte that something has written. -/
theorem State.hostReadBuf_written {s : State} {i : Nat} {v : Byte} (hi : i < 16) (hv : s.buf.read i = some v) :
    s.hostReadBuf i = .next { s with hostData := v } := by
  refine (if_pos hi).trans ?_
  rw [hv]

/-- U14: a byte that nothing has written reads as a free value. -/
theorem State.hostReadBuf_unwritten {s : State} {i : Nat} (hi : i < 16) (hv : s.buf.read i = none) :
    s.hostReadBuf i = .next { s with hostData := Config.freeByte s.free, free := s.free + 1 } := by
  refine (if_pos hi).trans ?_
  rw [hv]

/-- R40: an index above 15 does not exist. -/
theorem State.hostReadBuf_outside {s : State} {i : Nat} (hi : 16 ≤ i) :
    s.hostReadBuf i = .fault (.outsideBuffer .buf i) :=
  if_neg (Nat.not_lt_of_le hi)

/-- U7: a bit period outside R5's range is refused. -/
theorem State.configureTick_outOfRange {s : State} {tBit : Nat} (hb : s.busy = false)
    (h : tBit < 10000 ∨ 100000 < tBit) : s.configureTick tBit = .refused (.bitPeriodOutOfRange tBit) := by
  have illegal : Config.bitPeriodLegal tBit = false := by
    rw [Config.bitPeriodLegal, Bool.and_eq_false_iff, decide_eq_false_iff_not, decide_eq_false_iff_not]
    exact h.imp Nat.not_le_of_lt Nat.not_le_of_lt
  rw [State.configureTick, hb, illegal]
  rfl

/-- Settles O44: each access of the host to an idle block is made (`State.whenIdle_idle`), and is the access of its name. -/
theorem hostAccessWhileIdle : Obligations.HostAccessWhileIdle := by
  unfold Obligations.HostAccessWhileIdle
  intro s ms hb
  have access {a : HostAction} {r : Result} (hs : s.schedule = .host a :: ms)
      (ha : hostAct a { s with schedule := ms } = { s with schedule := ms }.whenIdle r) : step s = r :=
    (step_host hs).trans (ha.trans (State.whenIdle_idle hb r))
  refine ⟨fun v hs => access hs rfl, fun v hs => access hs rfl, fun v hs => access hs rfl, fun i v hi hs => ?_,
    fun i v hi hv hs => ?_, fun hs => ?_, fun hs => ?_, fun hs => step_host hs, fun i hi hv hs => ?_,
    fun i hi => ⟨fun v hs => ?_, fun hs => ?_⟩, fun tBit hs => ⟨fun hmin hmax => ?_, fun h => ?_⟩⟩
  · refine ⟨_, (access hs rfl).trans ((State.store_eq_next_iff ..).mpr ⟨hi, rfl⟩), rfl, fun j => ?_⟩
    exact Memory.read_write s.buf i j v
  · exact (access hs rfl).trans (State.hostReadBuf_written (s := { s with schedule := ms }) hi hv)
  · rw [step_host hs, hostAct, State.hostReadResult]
    exact congrArg _ (if_neg (by simp [hb]))
  · rw [step_host hs, hostAct]
    dsimp only
    rw [hb]
    rfl
  · exact ⟨_, (access hs rfl).trans (State.hostReadBuf_unwritten (s := { s with schedule := ms }) hi hv)⟩
  · exact (access hs rfl).trans (if_neg (Nat.not_lt_of_le hi))
  · exact (access hs rfl).trans (State.hostReadBuf_outside hi)
  · exact (step_host hs).trans ((State.configureTick_eq_next_iff ..).mpr ⟨hb, hmin, hmax, rfl⟩)
  · exact (step_host hs).trans (State.configureTick_outOfRange hb h)

/-! ### The tick source, a placed word, and the plan -/

/-- Settles O45: the step is the tick source's move, which sets the flag only while it delivers. -/
theorem tickDeliverySetsTheFlag : Obligations.TickDeliverySetsTheFlag := by
  unfold Obligations.TickDeliverySetsTheFlag
  refine fun s ms => ⟨fun hs ho => ?_, fun hs ho => ?_, fun hs => step_scheduled hs⟩ <;>
    rw [step_scheduled hs, agentMove, State.deliverTick] <;> dsimp only <;> rw [ho]
  · rw [Bool.or_true]
  · rw [Bool.or_false]

/-- Settles O46: the move placed with the word runs it (`step_sequencer`), decoded or refused. -/
theorem fetchedWordIsRun : Obligations.FetchedWordIsRun := by
  unfold Obligations.FetchedWordIsRun
  intro s nbits w
  have runs : step (s.withFetchWord nbits w) = runWord nbits w s :=
    step_sequencer (m := .word nbits w) (rest := s.plan) (ms := s.schedule) rfl rfl
  refine ⟨fun i hi => ?_, fun hi => ?_⟩ <;> rw [runs, runWord, hi]

/-- Only a wait, or a slot, makes the sequencer wait. -/
theorem waiting_of_runs {s : State} {i : Instr} {rest : List Micro} (hp : s.plan = .op i :: rest)
    (h : s.tickPending = true ∨ i ≠ .waittick ∧ ∀ a, i ≠ .slot a) : waiting s = false := by
  by_cases hi : i = .waittick ∨ ∃ a, i = .slot a
  · rw [waiting_of_wait hi hp]
    rcases h with ht | ⟨hw, hslot⟩
    · rw [ht]
      rfl
    · rcases hi with hi | ⟨a, hi⟩
      · exact absurd hi hw
      · exact absurd hi (hslot a)
  · unfold waiting
    rw [hp]
    split
    next heq => cases heq; exact absurd (.inl rfl) hi
    next a _ heq => cases heq; exact absurd (.inr ⟨a, rfl⟩) hi
    next => rfl

/-- Settles O47: a move of the sequencer runs the head of the plan (`step_sequencer`), and so does the default move where the
sequencer does not wait (`waiting_of_runs`); with an empty plan there is nothing to do. -/
theorem stepRunsThePlan : Obligations.StepRunsThePlan := by
  unfold Obligations.StepRunsThePlan
  refine fun s => ⟨fun i rest ms hp hs => step_sequencer hs hp, fun i rest hp hs h => ?_, fun hp hs => ?_⟩
  · exact step_runs hs hp (waiting_of_runs hp h)
  · have idle : waiting s = false := by rw [waiting, hp]
    rw [step, hs, defaultMove, idle, seqStep, hp]
    rfl

end Sys2Proof.Machine

/-! The rows of one symbol and of one byte value, and the pulse as a host operation. -/

namespace Sys2Proof.Machine

open Sys2Proof

/-! ### The transmitted symbols (R61, R65) -/

/-- Settles O11: each row begins a transmitted cell, MAK and NOMAK in cell 8, and the cell runs to its end
(`reaches_beginCell_txCell`). -/
theorem fixedTransmitCells : Obligations.FixedTransmitCells := by
  unfold Obligations.FixedTransmitCells
  intro s hr
  refine ⟨?_, ?_, ?_, ?_⟩
  · exact ⟨_, rfl, _, reaches_beginCell_txCell hr true, rfl, rfl⟩
  · exact ⟨_, rfl, _, reaches_beginCell_txCell hr false, rfl, rfl⟩
  · exact ⟨_, rfl, _, reaches_beginCell_txCell (s := { s with seq.cell := 8 }) hr s.params.makBit, rfl, rfl⟩
  · exact ⟨_, rfl, _, reaches_beginCell_txCell (s := { s with seq.cell := 8 }) hr (!s.params.makBit), rfl, rfl⟩

/-! ### The received symbols (R62, R66) -/

/-- What a received cell leaves whose pair the environment presents (log 15). -/
def State.afterPresented (s : State) (x : Level × Level) : State :=
  { s with tickPending := false, dir := .input, s1 := x.1, s2 := x.2, sampleOut := x.2, bitres := outcomeOf s.params x
           lerr := s.lerr || readsInvalid s.params x, seq.ph := 0, wire := s.wireAfter (rxTrace x) }

/-- A received cell whose pair is presented takes that pair and no other sample. -/
theorem reaches_presentedCell {s : State} (hr : Ready s) (x : Level × Level) :
    Reaches ((s.presents x).beginCell rxCell) (s.afterPresented x) := by
  have cell := reaches_beginCell_rxCell (s := s.presents x) hr
  rw [judgePair_eq_outcomeOf] at cell
  exact cell

/-- R62: RX_ONE_PAIR reads ONE. -/
theorem outcomeOf_rxOnePair (p : Config.Params) : outcomeOf p p.rxOnePair = .one := by
  simp [outcomeOf, readsOne]

/-- R62: RX_ONE_PAIR is no invalid pair. -/
theorem readsInvalid_rxOnePair (p : Config.Params) : readsInvalid p p.rxOnePair = false := by
  simp [readsInvalid]

/-- R62: the complement of RX_ONE_PAIR is another pair. -/
theorem readsOne_zeroPair (p : Config.Params) : readsOne p (!p.rxOnePair.1, !p.rxOnePair.2) = false := by
  rw [readsOne, beq_eq_false_iff_ne, ne_eq, Prod.ext_iff]
  simp

/-- R62: the complement of RX_ONE_PAIR reads ZERO. -/
theorem outcomeOf_zeroPair (p : Config.Params) : outcomeOf p (!p.rxOnePair.1, !p.rxOnePair.2) = .zero := by
  simp [outcomeOf, readsOne_zeroPair, readsInvalid]

/-- R62: the complement of RX_ONE_PAIR is no invalid pair. -/
theorem readsInvalid_zeroPair (p : Config.Params) : readsInvalid p (!p.rxOnePair.1, !p.rxOnePair.2) = false := by
  simp [readsInvalid]

/-- R62: two equal levels are neither RX_ONE_PAIR nor its complement, whose levels differ. -/
theorem readsInvalid_equal {p : Config.Params} (h : p.sound = true) (l : Level) : readsInvalid p (l, l) = true := by
  have differ : p.rxOnePair.2 = !p.rxOnePair.1 := by
    simp only [Config.Params.sound, Bool.and_eq_true, decide_eq_true_eq] at h
    exact h.2
  simp only [readsInvalid, Bool.and_eq_true, bne_iff_ne, ne_eq, Prod.ext_iff, differ]
  cases l <;> cases p.rxOnePair.1 <;> simp

/-- A pair that reads invalid gives INVALID. -/
theorem outcomeOf_of_readsInvalid {p : Config.Params} {x : Level × Level} (h : readsInvalid p x = true) :
    outcomeOf p x = .invalid := by
  rw [← beq_iff_eq, outcomeOf_invalid, h]

/-- Settles O13: each row is a received cell whose pair is presented (`reaches_presentedCell`), judged by R62. -/
theorem receivedSymbols : Obligations.ReceivedSymbols := by
  unfold Obligations.ReceivedSymbols
  intro s hr hs
  have cell {i : Instr} (x : Level × Level) (hi : exec i s = .next ((s.presents x).beginCell rxCell)) :
      Completes i s fun u => u = s.afterPresented x := ⟨_, hi, _, reaches_presentedCell hr x, rfl, rfl⟩
  refine ⟨?_, ?_, ?_, ?_⟩
  · have c := cell (i := .rxbitOne) s.params.rxOnePair rfl
    rwa [State.afterPresented, outcomeOf_rxOnePair, readsInvalid_rxOnePair, Bool.or_false] at c
  · have c := cell (i := .rxbitZero) (!s.params.rxOnePair.1, !s.params.rxOnePair.2) rfl
    rwa [State.afterPresented, outcomeOf_zeroPair, readsInvalid_zeroPair, Bool.or_false] at c
  · have c := cell (i := .rxbitInvalidLL) (false, false) rfl
    rwa [State.afterPresented, outcomeOf_of_readsInvalid (readsInvalid_equal hs false), readsInvalid_equal hs false,
      Bool.or_true] at c
  · have c := cell (i := .rxbitInvalidHH) (true, true) rfl
    rwa [State.afterPresented, outcomeOf_of_readsInvalid (readsInvalid_equal hs true), readsInvalid_equal hs true,
      Bool.or_true] at c

/-- Settles O14: SAK is cell 9 with RX_ONE_PAIR presented (`reaches_presentedCell`); its check finds ONE. -/
theorem sakIsAnAcknowledgedCell : Obligations.SakIsAnAcknowledgedCell := by
  unfold Obligations.SakIsAnAcknowledgedCell
  intro s hr
  have cell := reaches_presentedCell (s := { s with seq.cell := 9, plan := .act .slaveCheck :: s.plan }) hr
    s.params.rxOnePair
  rw [State.afterPresented] at cell
  dsimp only at cell
  rw [outcomeOf_rxOnePair, readsInvalid_rxOnePair, Bool.or_false] at cell
  refine ⟨_, rfl, _, cell.trans (reaches_act hr.1 rfl rfl (Reaches.refl _)), rfl, ?_⟩
  simp only [zeroSlaveCheck, cerrAfterSlave, acknowledged, beq_self_eq_true, Bool.not_true, Bool.or_false]
  rfl

/-! ### The byte values with a fixed position (R74, R77, R117) -/

/-- A byte in its fixed position is sent with its acknowledge, checked. -/
theorem completes_sendFixed {i : Instr} {s : State} {f : FrameStep} {mak : Bool} {v : Byte} (hr : Ready s)
    (hi : exec i s = .next (s.sendFixed f mak v true)) :
    Completes i s fun u => u = { s with makf := mak, seq.fst := f }.afterTxByte v :=
  ⟨_, hi, _, reaches_sendByte (s := { s with makf := mak, seq.fst := f }) hr v true, rfl, rfl⟩

/-- Settles O18: both rows send the synchronization byte with MAK, unchecked (`reaches_sendByte`). -/
theorem syncFrameIsUnchecked : Obligations.SyncFrameIsUnchecked := by
  unfold Obligations.SyncFrameIsUnchecked
  intro s hr
  refine ⟨(txbyteSendsMostSignificantFirst s hr).2, ?_⟩
  exact ⟨_, rfl, _, reaches_sendByte (s := { s with makf := true, seq.fst := .sync }) hr Config.SYNC_BYTE false, rfl, rfl⟩

/-- Settles O19: each row is a byte in its fixed position (`completes_sendFixed`). -/
theorem fixedBytesOfAFrame : Obligations.FixedBytesOfAFrame := by
  unfold Obligations.FixedBytesOfAFrame
  intro s hr
  exact ⟨completes_sendFixed hr rfl, completes_sendFixed hr rfl, completes_sendFixed hr rfl, completes_sendFixed hr rfl,
    completes_sendFixed hr rfl⟩

/-! ### STANDBY (R165) -/

/-- SPULSE at the head of the plan. -/
theorem reaches_spulse {s : State} (hr : Ready s) (rest : List Micro) :
    Reaches { s with plan := .op .spulse :: rest } { s.afterPulse with plan := rest } :=
  reaches_op hr.1 rfl rfl (exec_spulse _)
    (reaches_pulsePlan (s := { s with seq.fst := .pulse, seq.frame := .spulse }) hr rest)

/-- An operation of the host completes when what it begins with leads to its end. -/
theorem completes_command {i : Instr} {s u : State} {op : BitVec 2} {len : Byte} {addr : Half} {post : State → Prop}
    (hi : exec i s = s.command op len addr) (hb : s.busy = false)
    (hu : Reaches { s with op := op, len := len, addr := addr }.hostStart u) (hp : u.plan = s.plan) (h : post u) :
    Completes i s post :=
  ⟨_, hi.trans (State.command_idle hb op len addr), u, hu, hp, h⟩

/-- Settles O39: STANDBY begins with its pulse (`State.hostStart_standby`), which runs to its end (`reaches_spulse`), and completes
with RESULT as it was. -/
theorem standbyIsOnePulse : Obligations.StandbyIsOnePulse := by
  unfold Obligations.StandbyIsOnePulse
  intro s len addr hr hb
  refine completes_command (op := 3#2) (u := { s.afterPulse with op := 3#2, len := len, addr := addr }.complete none) rfl hb
    ?_ rfl rfl
  rw [State.hostStart_standby rfl]
  refine (reaches_spulse (s := { s with
    op := 3#2, len := len, addr := addr, busy := true, tickPending := false, seq.top := .standby }) hr
    (.act .finishStandby :: s.plan)).trans ?_
  exact reaches_act hr.1 rfl rfl (Reaches.refl _)

end Sys2Proof.Machine

/-! The frames with a payload: F_READ, F_WRITE and F_POLL (R136 to R138). What the payload's bytes leave is counted from the header
on, in the received cells of the frame; the loop of each frame is then one induction on the bytes that are left. -/

namespace Sys2Proof.Machine

open Sys2Proof

/-! ### The header, in the cells of its frame -/

/-- The slots of the header with the address (R135), the environment answering as `e`. -/
def State.addressedTrace (e : State) (p : Config.Params) (addr : Half) (c : Byte) : List SlotRec :=
  e.headerTrace p c true ++ txByteTrace (addrHigh addr) p.makBit (e.pairAt 2) ++
    txByteTrace (addrLow addr) p.makBit (e.pairAt 3)

/-- The header with the address, in a frame whose environment answered as `e` before it. -/
theorem State.afterAddressed_eq_afterCells {s e : State} (same : SameAnswers s e) (c : Byte) :
    s.afterAddressed c true true = { s with txb := 0#8, seq.fst := .addrl }.afterCells e true 3
      (!(e.nextPairs 4).all (readsOne s.params)) (e.addressedTrace s.params s.addr c) := by
  have pairs : e.nextPairs 4 = e.nextPairs 2 ++ [e.pairAt 2, e.pairAt 3] := rfl
  have missed : (!(e.nextPairs 4).all (readsOne s.params)) =
      (!(e.nextPairs 2).all (readsOne s.params) || !readsOne s.params (e.pairAt 2) || !readsOne s.params (e.pairAt 3)) := by
    rw [pairs, List.all_append, List.all_cons, List.all_cons, List.all_nil, Bool.and_true, Bool.not_and, Bool.not_and,
      Bool.or_assoc]
  rw [State.afterAddressed, State.afterCommand_eq_afterCells same, State.afterCells_afterSent, State.afterCells_afterSent,
    missed]
  rfl

/-! ### Bytes received after a header -/

/-- After a header of `k + 1` slave cells with the slots `xs` and `j` bytes received after it, byte `i` of them with the
acknowledge `maks i`; the environment answered as `e` before the header. -/
def State.afterReceived (b e : State) (k : Nat) (xs : List SlotRec) (maks : Nat → Bool) (mak : Bool) (j : Nat) : State :=
  b.afterCells e mak (k + 9 * j)
    (!((e.nextPairs (k + 1)).all (readsOne b.params) &&
      (List.range j).all fun i => readsOne b.params (e.pairAt (k + 1 + 9 * i + 8))))
    (xs ++ (List.range j).flatMap fun i =>
      rxByteTrace ((e.afterPairs (k + 1 + 9 * i)).nextPairs 8) (makBitOf b.params (maks i)) (e.pairAt (k + 1 + 9 * i + 8)))

/-- The byte `j` of those received after a header of `k + 1` slave cells. -/
def State.receivedAt (e : State) (p : Config.Params) (k j : Nat) : Byte :=
  byteOfPairs p ((e.afterPairs (k + 1 + 9 * j)).nextPairs 8)

/-- No byte received yet. -/
theorem State.afterReceived_zero (b e : State) (k : Nat) (xs : List SlotRec) (maks : Nat → Bool) (mak : Bool) :
    b.afterReceived e k xs maks mak 0 = b.afterCells e mak k (!(e.nextPairs (k + 1)).all (readsOne b.params)) xs := by
  rw [State.afterReceived, List.range_zero, List.all_nil, List.flatMap_nil, Bool.and_true, List.append_nil]
  rfl

/-- One more byte received. -/
theorem State.afterReceived_afterRxByte (b e : State) (k : Nat) (xs : List SlotRec) (maks : Nat → Bool) (mak : Bool)
    (j : Nat) :
    { b.afterReceived e k xs maks mak j with makf := maks j }.afterRxByte =
      { b with rxb := e.receivedAt b.params k j }.afterReceived e k xs maks (maks j) (j + 1) := by
  have cell : k + 9 * j + 1 = k + 1 + 9 * j := Nat.add_right_comm ..
  refine (b.afterCells_afterRxByte e mak (maks j) _ (k + 9 * j) _).trans ?_
  have last : k + 9 * (j + 1) = k + 1 + 9 * j + 8 := by omega
  simp only [cell, State.afterReceived, last, List.range_succ, List.all_append, List.all_cons, List.all_nil,
    Bool.and_true, Bool.not_and, Bool.or_assoc, List.flatMap_append, List.flatMap_cons, List.flatMap_nil, List.append_nil,
    List.append_assoc]
  rfl

/-- What a received byte leaves does not depend on a buffer. -/
theorem State.afterReceived_setBuffer (b e : State) (d : Dest) (m : Memory) (k : Nat) (xs : List SlotRec)
    (maks : Nat → Bool) (mak : Bool) (j : Nat) :
    (b.setBuffer d m).afterReceived e k xs maks mak j = (b.afterReceived e k xs maks mak j).setBuffer d m := by
  cases d <;> rfl

/-- The errors of a header and of the bytes received after it: a slave cell of the header does not acknowledge, or a byte is
not clean. -/
theorem State.received_errors (s : State) (k j : Nat) :
    (!((s.nextPairs (k + 1)).all (readsOne s.params) &&
        (List.range j).all fun i => readsOne s.params (s.pairAt (k + 1 + 9 * i + 8))) ||
      (s.nextPairs (k + 9 * j + 1)).any (readsInvalid s.params)) =
      !(s.acksAt (k + 1) && (List.range j).all fun i => s.cleanAt (k + 1 + 9 * i)) := by
  induction j with
  | zero =>
    rw [List.range_zero, List.all_nil, List.all_nil, Bool.and_true, Bool.and_true]
    exact not_all_readsOne_or_any_readsInvalid ..
  | succ j ih =>
    have cells : k + 9 * (j + 1) + 1 = k + 9 * j + 1 + 9 := by omega
    have cell : k + 9 * j + 1 = k + 1 + 9 * j := Nat.add_right_comm ..
    have clean := s.errors_eq_not_cleanAt (k + 1 + 9 * j)
    rw [cells, s.nextPairs_add (k + 9 * j + 1) 9, List.any_append, List.range_succ, List.all_append, List.all_append,
      ← Bool.and_assoc, ← Bool.and_assoc, Bool.not_and, Bool.not_and _ (List.all [j] _), ← ih]
    simp only [List.all_cons, List.all_nil, Bool.and_true, ← clean, cell]
    ac_rfl

/-! ### F_READ -/

/-- R136: F_READ between its preamble and its idle drive. -/
def readBody (d : Dest) : List Micro :=
  [.op (.addressed Config.CMD_READ true true), .act .payload, .act (.readByte d)]

/-- R136: F_READ begins its frame. -/
@[simp] theorem exec_fRead (d : Dest) (s : State) :
    exec (.fRead d) s = .next (s.beginFrame .read (.op .fstart :: readBody d ++ [.op .fend])) := rfl

/-- R136: a payload byte is planned where there is one. -/
theorem zeroReadByte_of_lt {s : State} (d : Dest) (h : s.seq.idx < s.n) :
    zeroReadByte d s = { s with makf := payloadMak s.seq.idx s.n }.push [.op .rxbyte, .act (.readNext d)] :=
  if_pos h

/-- A payload byte of F_READ is received, up to its store (R136). -/
theorem reaches_readByte {b e : State} {k : Nat} {xs : List SlotRec} {mak : Bool} (d : Dest) (hr : Ready b)
    (hn : b.seq.idx < b.n) (rest : List Micro) :
    Reaches
      { b.afterReceived e k xs (payloadMak · b.n) mak b.seq.idx with plan := .act (.readByte d) :: rest }
      { { b with rxb := e.receivedAt b.params k b.seq.idx }.afterReceived e k xs (payloadMak · b.n)
          (payloadMak b.seq.idx b.n) (b.seq.idx + 1) with plan := .act (.readNext d) :: rest } := by
  rw [← b.afterReceived_afterRxByte e k xs (payloadMak · b.n) mak]
  have begun := zeroReadByte_of_lt
    (s := { b.afterReceived e k xs (payloadMak · b.n) mak b.seq.idx with plan := rest }) d hn
  refine reaches_act hr.1 rfl (congrArg Host.Outcome.next begun) ?_
  exact reaches_rxbyte
    (s := { b.afterReceived e k xs (payloadMak · b.n) mak b.seq.idx with makf := payloadMak b.seq.idx b.n }) hr _

/-- A received payload byte is stored, and the next one begun if there is one (R136, R139). -/
theorem reaches_readNext {b e : State} {k j : Nat} {xs : List SlotRec} {maks : Nat → Bool} {mak : Bool} (d : Dest)
    (hr : Ready b) (hi : b.seq.idx < 16) (rest : List Micro) :
    Reaches { b.afterReceived e k xs maks mak j with plan := .act (.readNext d) :: rest }
      (if payloadMak b.seq.idx b.n then
        { ({ b with seq.idx := b.seq.idx + 1 }.setBuffer d ((b.buffer d).write b.seq.idx b.rxb)).afterReceived e k xs maks
            mak j with plan := .act (.readByte d) :: rest }
      else
        { (b.setBuffer d ((b.buffer d).write b.seq.idx b.rxb)).afterReceived e k xs maks mak j with plan := rest }) := by
  have stored := zeroReadNext_eq (s := { b.afterReceived e k xs maks mak j with plan := rest }) (d := d) hi
  cases d <;> exact reaches_act hr.1 rfl stored (Reaches.refl _)

/-- What a payload byte received into `d` leaves besides its cells. -/
def State.withReceived (b : State) (d : Dest) (v : Byte) : State :=
  { b with rxb := v }.setBuffer d ((b.buffer d).write b.seq.idx v)

/-- A payload byte of F_READ that is not the last, up to the next one. -/
theorem reaches_readByte_more {b e : State} {k : Nat} {xs : List SlotRec} {mak : Bool} (d : Dest) (hr : Ready b)
    (hi : b.seq.idx < 16) (hn : b.seq.idx + 1 < b.n) (rest : List Micro) :
    Reaches
      { b.afterReceived e k xs (payloadMak · b.n) mak b.seq.idx with plan := .act (.readByte d) :: rest }
      { { b.withReceived d (e.receivedAt b.params k b.seq.idx) with seq.idx := b.seq.idx + 1 }.afterReceived e k xs
          (payloadMak · b.n) true (b.seq.idx + 1) with plan := .act (.readByte d) :: rest } := by
  have more : payloadMak b.seq.idx b.n = true := decide_eq_true hn
  refine (reaches_readByte d hr (Nat.lt_of_succ_lt hn) rest).trans
    ((reaches_readNext (b := { b with rxb := e.receivedAt b.params k b.seq.idx }) d hr hi rest).of_eq ?_)
  dsimp only
  rw [more, if_pos rfl]
  cases d <;> rfl

/-- The last payload byte of F_READ. -/
theorem reaches_readByte_last {b e : State} {k : Nat} {xs : List SlotRec} {mak : Bool} (d : Dest) (hr : Ready b)
    (hi : b.seq.idx < 16) (hn : b.seq.idx + 1 = b.n) (rest : List Micro) :
    Reaches
      { b.afterReceived e k xs (payloadMak · b.n) mak b.seq.idx with plan := .act (.readByte d) :: rest }
      { (b.withReceived d (e.receivedAt b.params k b.seq.idx)).afterReceived e k xs (payloadMak · b.n) false
          (b.seq.idx + 1) with plan := rest } := by
  have last : payloadMak b.seq.idx b.n = false := decide_eq_false (by omega)
  refine (reaches_readByte d hr (Nat.lt_of_succ_le (Nat.le_of_eq hn)) rest).trans
    ((reaches_readNext (b := { b with rxb := e.receivedAt b.params k b.seq.idx }) d hr hi rest).of_eq ?_)
  dsimp only
  rw [last, if_neg Bool.false_ne_true]
  cases d <;> rfl

/-- The payload of F_READ from byte IDX on, where `l` more follow it (R136, R139). -/
theorem reaches_readPayload {e : State} {k : Nat} {xs : List SlotRec} {d : Dest} (l : Nat) {b : State} (hr : Ready b)
    (hn : b.n ≤ 16) (hl : b.seq.idx + (l + 1) = b.n) :
    ∃ r m, (∀ rest, Reaches
      { b.afterReceived e k xs (payloadMak · b.n) true b.seq.idx with plan := .act (.readByte d) :: rest }
      { ({ b with rxb := r, seq.idx := b.n - 1 }.setBuffer d m).afterReceived e k xs (payloadMak · b.n) false b.n with
        plan := rest }) ∧
      ∀ i, m.read i = if b.seq.idx ≤ i ∧ i < b.n then some (e.receivedAt b.params k i) else (b.buffer d).read i := by
  induction l generalizing b with
  | zero =>
    refine ⟨e.receivedAt b.params k b.seq.idx, (b.buffer d).write b.seq.idx (e.receivedAt b.params k b.seq.idx), fun rest => ?_,
      fun i => ?_⟩
    · refine (reaches_readByte_last d hr (by omega) hl rest).of_eq ?_
      have idx : b.n - 1 = b.seq.idx := by omega
      have count : b.seq.idx + 1 = b.n := hl
      rw [idx, count]
      cases d <;> rfl
    · have here : (b.seq.idx ≤ i ∧ i < b.n) = (i = b.seq.idx) := propext (by omega)
      simp only [Memory.read_write, here]
      split
      next h => rw [h]
      next => rfl
  | succ l ih =>
    have more := reaches_readByte_more (e := e) (k := k) (xs := xs) (mak := true) d hr (by omega) (by omega)
    have n : (b.withReceived d (e.receivedAt b.params k b.seq.idx)).n = b.n := by cases d <;> rfl
    obtain ⟨r, m, payload, hm⟩ := ih
      (b := { b.withReceived d (e.receivedAt b.params k b.seq.idx) with seq.idx := b.seq.idx + 1 })
      (by cases d <;> exact hr) (n.le.trans hn) (by rw [n, ← hl]; dsimp only; omega)
    refine ⟨r, m, fun rest => ?_, fun i => ?_⟩
    · cases d <;> exact (more rest).trans (payload rest)
    · have stored : ({ b.withReceived d (e.receivedAt b.params k b.seq.idx) with seq.idx := b.seq.idx + 1 }.buffer d) =
          (b.buffer d).write b.seq.idx (e.receivedAt b.params k b.seq.idx) := by cases d <;> rfl
      have params : (b.withReceived d (e.receivedAt b.params k b.seq.idx)).params = b.params := by cases d <;> rfl
      rw [hm, stored, Memory.read_write]
      simp only [n, params]
      obtain rfl | other := eq_or_ne i b.seq.idx
      · have lt : b.seq.idx < b.n := by omega
        simp [lt]
      · have later : (b.seq.idx + 1 ≤ i) = (b.seq.idx ≤ i) := propext (by omega)
        simp only [later, if_neg other]

/-- R136: with N = 0 there is no payload. -/
theorem zeroReadByte_of_le {s : State} (d : Dest) (h : s.n ≤ s.seq.idx) : zeroReadByte d s = s := if_neg (Nat.not_lt_of_le h)

/-- The header of F_READ, up to its first payload byte. -/
theorem reaches_readHeader {s e : State} {d : Dest} (hr : Ready s) (same : SameAnswers s e) (rest : List Micro) :
    Reaches { s with plan := readBody d ++ rest }
      { { s with txb := 0#8, seq.fst := .payload, seq.idx := 0 }.afterReceived e 3
          (e.addressedTrace s.params s.addr 0x03#8) (payloadMak · s.n) true 0 with plan := .act (.readByte d) :: rest } := by
  refine (reaches_addressed hr 0x03#8 true true _).trans ?_
  rw [State.afterAddressed_eq_afterCells same, State.afterReceived_zero]
  exact reaches_act hr.1 rfl rfl (Reaches.refl _)

/-- The body of F_READ: the header and the payload. -/
theorem reaches_readBody {s e : State} (d : Dest) (hr : Ready s) (same : SameAnswers s e) (hn : s.n ≤ 16) :
    ∃ mak r m, (∀ rest, Reaches { s with plan := readBody d ++ rest }
      { ({ s with txb := 0#8, rxb := r, seq.fst := .payload, seq.idx := s.n - 1 }.setBuffer d m).afterReceived e 3
          (e.addressedTrace s.params s.addr 0x03#8) (payloadMak · s.n) mak s.n with plan := rest }) ∧
      ∀ i, m.read i = if i < s.n then some (e.receivedAt s.params 3 i) else (s.buffer d).read i := by
  obtain hz | hz := Nat.eq_zero_or_pos s.n
  · refine ⟨true, s.rxb, s.buffer d, fun rest => ?_, fun i => (if_neg (by omega)).symm⟩
    have past : s.n ≤ ({ s with txb := 0#8, seq.fst := .payload, seq.idx := 0 }.afterReceived e 3
      (e.addressedTrace s.params s.addr 0x03#8) (payloadMak · s.n) true 0).seq.idx := hz.le
    have idx : s.n - 1 = 0 := by rw [hz]
    have count (b : State) (xs : List SlotRec) (maks : Nat → Bool) :
        b.afterReceived e 3 xs maks true s.n = b.afterReceived e 3 xs maks true 0 :=
      congrArg (b.afterReceived e 3 xs maks true) hz
    refine (reaches_readHeader hr same rest).trans (.of_eq
      (reaches_act hr.1 rfl (congrArg Host.Outcome.next (zeroReadByte_of_le d past)) (Reaches.refl _)) ?_)
    rw [idx, count]
    cases d <;> rfl
  · obtain ⟨r, m, payload, hm⟩ := reaches_readPayload (e := e) (k := 3) (xs := e.addressedTrace s.params s.addr 0x03#8)
      (d := d) (s.n - 1) (b := { s with txb := 0#8, seq.fst := .payload, seq.idx := 0 }) hr hn (by dsimp only; omega)
    refine ⟨false, r, m, fun rest => (reaches_readHeader hr same rest).trans (payload rest), fun i => ?_⟩
    simp only [hm, Nat.zero_le, true_and]
    cases d <;> rfl

/-- The slots of F_READ between its preamble and its idle drive (R136). -/
def State.readSlots (e : State) (p : Config.Params) (addr : Half) (n : Nat) : List SlotRec :=
  e.addressedTrace p addr 0x03#8 ++ (List.range n).flatMap fun i =>
    rxByteTrace ((e.afterPairs (4 + 9 * i)).nextPairs 8) (makBitOf p (payloadMak i n)) (e.pairAt (4 + 9 * i + 8))

/-- The frame of F_READ runs to its end, the environment answering as `e` before it: the bytes received are in the destination,
and nothing else of a buffer is changed. -/
theorem reaches_readFrame {s e : State} (d : Dest) (hr : Ready s) (same : SameAnswers s e) (hn : s.n ≤ 16) :
    ∃ mak r m, Reaches (s.beginFrame .read (.op .fstart :: readBody d ++ [.op .fend]))
      { ({ s with rxb := r, seq.idx := s.n - 1 }.setBuffer d m).afterFrame e mak (3 + 9 * s.n)
          (!((e.nextPairs 4).all (readsOne s.params) &&
            (List.range s.n).all fun i => readsOne s.params (e.pairAt (4 + 9 * i + 8))))
          (e.readSlots s.params s.addr s.n) with plan := s.plan } ∧
      ∀ i, m.read i = if i < s.n then some (e.receivedAt s.params 3 i) else (s.buffer d).read i := by
  obtain ⟨mak, r, m, body, hm⟩ := reaches_readBody (s := (s.beginFrame .read []).afterStart) d hr same hn
  refine ⟨mak, r, m, ?_, fun i => (hm i).trans (by cases d <;> rfl)⟩
  have frame := reaches_frame (s := s)
    (t := { s.beginFrame .read [] with rxb := r, seq.idx := s.n - 1 }.setBuffer d m) (f := .payload) hr body
    (by cases d <;> rfl) (by cases d <;> exact hr)
  cases d <;> exact frame

/-- Settles O27: F_READ begins its frame (`exec_fRead`), which runs to its end with its bytes stored (`reaches_readFrame`); its
errors are those of the header and of the bytes (`State.received_errors`). -/
theorem fReadStoresThePayload : Obligations.FReadStoresThePayload := by
  unfold Obligations.FReadStoresThePayload
  intro s d hr _ hn
  obtain ⟨mak, r, m, frame, hm⟩ := reaches_readFrame d hr (e := s) ⟨rfl, rfl⟩ hn
  have cells : 3 + 9 * s.n + 1 = 4 + 9 * s.n := Nat.add_right_comm ..
  refine ⟨_, exec_fRead d s, _, frame, rfl, ?_, fun i => ?_, fun e he => ?_⟩
  · have errors := s.received_errors 3 s.n
    rw [cells] at errors
    simp only [State.afterFrame, cells, State.readSlots, State.addressedTrace, State.headerTrace]
    cases d <;> simp only [State.setBuffer, errors, List.append_assoc] <;> rfl
  · refine Eq.trans ?_ (hm i)
    cases d <;> rfl
  · refine Eq.trans ?_ (if_neg he : (if e = d then m else s.buffer e) = s.buffer e)
    cases d <;> cases e <;> rfl

/-! ### F_WRITE -/

/-- Payload byte `j` of F_WRITE (R137). -/
def State.payloadByte (s : State) (j : Nat) : Byte := (s.buf.read j).getD 0#8

/-- The slots of F_WRITE between its preamble and its idle drive, up to payload byte `j` (R137). -/
def State.writeSlots (b e : State) (j : Nat) : List SlotRec :=
  e.addressedTrace b.params b.addr 0x6C#8 ++ (List.range j).flatMap fun i =>
    txByteTrace (b.payloadByte i) (makBitOf b.params (payloadMak i b.n)) (e.pairAt (4 + i))

/-- After the header of F_WRITE and `j` payload bytes; the environment answered as `e` before the header. -/
def State.afterPayload (b e : State) (mak : Bool) (j : Nat) : State :=
  { b with txb := 0#8, seq.fst := .payload }.afterCells e mak (3 + j) (!(e.nextPairs (4 + j)).all (readsOne b.params))
    (b.writeSlots e j)

/-- One more payload byte sent. -/
theorem State.afterPayload_afterTxByte (b e : State) (mak : Bool) (j : Nat) :
    { b.afterPayload e mak j with makf := payloadMak j b.n }.afterTxByte (b.payloadByte j) =
      b.afterPayload e (payloadMak j b.n) (j + 1) := by
  have cell : 3 + j + 1 = 4 + j := Nat.add_right_comm ..
  have cells : 3 + (j + 1) = 4 + j := by omega
  have pairs : e.nextPairs (4 + (j + 1)) = e.nextPairs (4 + j) ++ [e.pairAt (4 + j)] := e.nextPairs_succ (4 + j)
  refine ({ b with txb := 0#8, seq.fst := .payload }.afterCells_afterSent e mak (payloadMak j b.n) _ (3 + j) _ .payload
    (b.payloadByte j)).trans ?_
  simp only [State.afterPayload, State.writeSlots, cell, cells, pairs, List.all_append, List.all_cons, List.all_nil,
    Bool.and_true, Bool.not_and, List.range_succ, List.flatMap_append, List.flatMap_cons, List.flatMap_nil,
    List.append_nil, List.append_assoc]

/-- R137: F_WRITE between its preamble and its idle drive. -/
def writeBody : List Micro := [.op (.addressed Config.CMD_WRITE true true), .act .payload, .act .writeByte]

/-- R137: F_WRITE begins its frame. -/
@[simp] theorem exec_fWrite (s : State) :
    exec .fWrite s = .next (s.beginFrame .write (.op .fstart :: writeBody ++ [.op .fend])) := rfl

/-- A byte sent does not see the rest of the plan. -/
theorem State.afterTxByte_withPlan (s : State) (ms : List Micro) (v : Byte) :
    { s with plan := ms }.afterTxByte v = { s.afterTxByte v with plan := ms } :=
  { s with txb := 0#8 }.afterAckx_withPlan true ms ms _

/-- TXBYTE at the head of the plan. -/
theorem reaches_txbyte {s : State} (hr : Ready s) (v : Byte) (rest : List Micro) :
    Reaches { s with plan := .op (.txbyte v) :: rest } { s.afterTxByte v with plan := rest } := by
  rw [← State.afterTxByte_withPlan]
  exact reaches_op hr.1 rfl rfl (exec_txbyte v _) (reaches_sendByte (s := { s with plan := rest }) hr v true)

/-- R137: a payload byte that has been written is sent. -/
theorem zeroWriteByte_of_lt {s : State} (h : s.seq.idx < s.n) (hw : (s.buf.read s.seq.idx).isSome = true) :
    zeroWriteByte s = .next ({ s with makf := payloadMak s.seq.idx s.n }.push
      [.op (.txbyte (s.payloadByte s.seq.idx)), .act .writeNext]) := by
  obtain ⟨v, hv⟩ := Option.isSome_iff_exists.mp hw
  unfold zeroWriteByte State.payloadByte
  rw [if_pos h, hv]
  rfl

/-- R137: with N = 0 there is no payload. -/
theorem zeroWriteByte_of_le {s : State} (h : s.n ≤ s.seq.idx) : zeroWriteByte s = .next s := if_neg (Nat.not_lt_of_le h)

/-- A payload byte of F_WRITE is sent, and the next one begun if there is one (R137, R139). -/
theorem reaches_writeByte {b e : State} {mak : Bool} (hr : Ready b) (hn : b.seq.idx < b.n)
    (hw : (b.buf.read b.seq.idx).isSome = true) (rest : List Micro) :
    Reaches { b.afterPayload e mak b.seq.idx with plan := .act .writeByte :: rest }
      (if payloadMak b.seq.idx b.n then
        { { b with seq.idx := b.seq.idx + 1 }.afterPayload e (payloadMak b.seq.idx b.n) (b.seq.idx + 1) with
          plan := .act .writeByte :: rest }
      else { b.afterPayload e (payloadMak b.seq.idx b.n) (b.seq.idx + 1) with plan := rest }) := by
  refine reaches_act hr.1 rfl (zeroWriteByte_of_lt hn hw) ?_
  refine (reaches_txbyte (s := { b.afterPayload e mak b.seq.idx with makf := payloadMak b.seq.idx b.n }) hr
    (b.payloadByte b.seq.idx) _).trans ?_
  rw [State.afterPayload_afterTxByte]
  exact reaches_act hr.1 rfl rfl (Reaches.refl _)

/-- The payload of F_WRITE from byte IDX on, where `l` more follow it (R137, R139). -/
theorem reaches_writePayload {e : State} (l : Nat) {b : State} (hr : Ready b) (hw : Written b b.n)
    (hl : b.seq.idx + (l + 1) = b.n) (rest : List Micro) :
    Reaches { b.afterPayload e true b.seq.idx with plan := .act .writeByte :: rest }
      { { b with seq.idx := b.n - 1 }.afterPayload e false b.n with plan := rest } := by
  induction l generalizing b with
  | zero =>
    have byte := reaches_writeByte (e := e) (mak := true) hr (by omega) (hw _ (by omega)) rest
    have last : payloadMak b.seq.idx b.n = false := decide_eq_false (by omega)
    have idx : b.n - 1 = b.seq.idx := by omega
    have count : b.seq.idx + 1 = b.n := hl
    rw [last, if_neg Bool.false_ne_true, count] at byte
    rwa [idx]
  | succ l ih =>
    have byte := reaches_writeByte (e := e) (mak := true) hr (by omega) (hw _ (by omega)) rest
    have more : payloadMak b.seq.idx b.n = true := decide_eq_true (by omega)
    rw [more, if_pos rfl] at byte
    exact byte.trans (ih (b := { b with seq.idx := b.seq.idx + 1 }) hr hw (by dsimp only; omega))

/-- The header of F_WRITE, up to its first payload byte. -/
theorem reaches_writeHeader {s e : State} (hr : Ready s) (same : SameAnswers s e) (rest : List Micro) :
    Reaches { s with plan := writeBody ++ rest }
      { { s with seq.idx := 0 }.afterPayload e true 0 with plan := .act .writeByte :: rest } := by
  refine (reaches_addressed hr 0x6C#8 true true _).trans ?_
  rw [State.afterAddressed_eq_afterCells same, State.afterPayload, State.writeSlots, List.range_zero, List.flatMap_nil,
    List.append_nil]
  exact reaches_act hr.1 rfl rfl (Reaches.refl _)

/-- The body of F_WRITE: the header and the payload. -/
theorem reaches_writeBody {s e : State} (hr : Ready s) (same : SameAnswers s e) (hw : Written s s.n) :
    ∃ mak, ∀ rest, Reaches { s with plan := writeBody ++ rest }
      { { s with seq.idx := s.n - 1 }.afterPayload e mak s.n with plan := rest } := by
  obtain hz | hz := Nat.eq_zero_or_pos s.n
  · have past : s.n ≤ ({ s with seq.idx := 0 }.afterPayload e true 0).seq.idx := hz.le
    refine ⟨true, fun rest => (reaches_writeHeader hr same rest).trans (.of_eq
      (reaches_act hr.1 rfl (zeroWriteByte_of_le past) (Reaches.refl _)) ?_)⟩
    have idx : s.n - 1 = 0 := by rw [hz]
    have count (b : State) : b.afterPayload e true s.n = b.afterPayload e true 0 := congrArg (b.afterPayload e true) hz
    rw [idx, count]
  · exact ⟨false, fun rest => (reaches_writeHeader hr same rest).trans
      (reaches_writePayload (s.n - 1) (b := { s with seq.idx := 0 }) hr hw (by dsimp only; omega) rest)⟩

/-- The frame of F_WRITE runs to its end. -/
theorem reaches_writeFrame {s e : State} (hr : Ready s) (same : SameAnswers s e) (hw : Written s s.n) :
    ∃ mak, Reaches (s.beginFrame .write (.op .fstart :: writeBody ++ [.op .fend]))
      { { s with seq.idx := s.n - 1 }.afterFrame e mak (3 + s.n) (!(e.nextPairs (4 + s.n)).all (readsOne s.params))
          (s.writeSlots e s.n) with plan := s.plan } := by
  obtain ⟨mak, body⟩ := reaches_writeBody (s := (s.beginFrame .write []).afterStart) hr same hw
  exact ⟨mak, reaches_frame (s := s) (t := { s.beginFrame .write [] with seq.idx := s.n - 1 }) (f := .payload) hr body rfl hr⟩

/-- Settles O28: F_WRITE begins its frame (`exec_fWrite`), which runs to its end (`reaches_writeFrame`); an error in it is a
slave cell that does not acknowledge (`not_all_readsOne_or_any_readsInvalid`). -/
theorem fWriteSendsTheBuffer : Obligations.FWriteSendsTheBuffer := by
  unfold Obligations.FWriteSendsTheBuffer
  intro s hr _ hw
  obtain ⟨mak, frame⟩ := reaches_writeFrame hr (e := s) ⟨rfl, rfl⟩ hw
  refine ⟨_, exec_fWrite s, _, frame, rfl, ?_⟩
  have cells : 3 + s.n + 1 = 4 + s.n := Nat.add_right_comm ..
  simp only [State.afterFrame, cells, not_all_readsOne_or_any_readsInvalid, State.writeSlots, State.addressedTrace,
    State.headerTrace, List.append_assoc]
  rfl

/-! ### F_POLL -/

/-- R138: F_POLL between its preamble and its idle drive. -/
def pollBody : List Micro :=
  [.op (.addressed Config.CMD_RDSR true false), .act .payload, .act .pollStart, .act .pollByte]

/-- R138: F_POLL begins its frame. -/
@[simp] theorem exec_fPoll (s : State) :
    exec .fPoll s = .next (s.beginFrame .poll (.op .fstart :: pollBody ++ [.op .fend])) := rfl

/-- R138: the WIP test below the ceiling and at it. -/
theorem zeroPollTest_eq {s : State} (h : s.seq.pcnt < 120) :
    zeroPollTest s =
      if wipClear s.params s.rxb = true ∨ s.seq.pcnt + 1 = 120 then
        { s with seq.pcnt := s.seq.pcnt + 1, cerr := s.cerr || !wipClear s.params s.rxb }
      else { s with seq.pcnt := s.seq.pcnt + 1 }.push [.act .pollByte] := by
  have count : min (s.seq.pcnt + 1) Config.POLL_CEILING = s.seq.pcnt + 1 := Nat.min_eq_left h
  unfold zeroPollTest
  rw [count]
  cases hc : wipClear s.params s.rxb
  · by_cases hp : s.seq.pcnt + 1 = 120 <;> simp [hc, hp, Config.POLL_CEILING, State.raiseComms]
  · simp [hc]

/-- A status byte is received, up to its test (R138). -/
theorem reaches_pollByte {b e : State} {xs : List SlotRec} (hr : Ready b) (rest : List Micro) :
    Reaches { b.afterReceived e 1 xs (fun _ => true) true b.seq.pcnt with plan := .act .pollByte :: rest }
      (zeroPollTest { { b with rxb := e.receivedAt b.params 1 b.seq.pcnt }.afterReceived e 1 xs (fun _ => true) true
        (b.seq.pcnt + 1) with plan := rest }) := by
  refine reaches_act hr.1 rfl rfl ?_
  refine (reaches_rxbyte (s := b.afterReceived e 1 xs (fun _ => true) true b.seq.pcnt) hr _).trans ?_
  have byte : (b.afterReceived e 1 xs (fun _ => true) true b.seq.pcnt).afterRxByte = _ :=
    b.afterReceived_afterRxByte e 1 xs (fun _ => true) true b.seq.pcnt
  rw [byte]
  exact reaches_act hr.1 rfl rfl (Reaches.refl _)

/-- `k` is the number of the first status byte at or after `j` that shows WIP clear, or 120 (R138). -/
def State.pollsTo (e : State) (p : Config.Params) (j k : Nat) : Prop :=
  j < k ∧ k ≤ 120 ∧ (∀ i, j ≤ i → i + 1 < k → wipClear p (e.receivedAt p 1 i) = false) ∧
    (wipClear p (e.receivedAt p 1 (k - 1)) = true ∨ k = 120)

/-- The next status byte is the last. -/
theorem State.pollsTo_succ {e : State} {p : Config.Params} {j : Nat} (hj : j < 120)
    (last : wipClear p (e.receivedAt p 1 j) = true ∨ j + 1 = 120) : e.pollsTo p j (j + 1) :=
  ⟨Nat.lt_succ_self j, hj, fun i hi hk => absurd hk (by omega), last⟩

/-- The next status byte is not the last. -/
theorem State.pollsTo_of_succ {e : State} {p : Config.Params} {j k : Nat}
    (more : ¬(wipClear p (e.receivedAt p 1 j) = true ∨ j + 1 = 120)) (h : e.pollsTo p (j + 1) k) : e.pollsTo p j k := by
  obtain ⟨hj, hk, busy, last⟩ := h
  refine ⟨Nat.lt_of_succ_lt hj, hk, fun i hi hik => ?_, last⟩
  obtain rfl | later := Nat.eq_or_lt_of_le hi
  · exact Bool.eq_false_iff.mpr fun clear => more (.inl clear)
  · exact busy i later hik

/-- After the header of F_POLL with the slots `xs` and `k` status bytes, the last of them tested (R138). -/
def State.afterPolls (b e : State) (xs : List SlotRec) (k : Nat) : State :=
  { { b with rxb := e.receivedAt b.params 1 (k - 1), seq.pcnt := k }.afterReceived e 1 xs (fun _ => true) true k with
    cerr := (b.afterReceived e 1 xs (fun _ => true) true k).cerr || !wipClear b.params (e.receivedAt b.params 1 (k - 1)) }

/-- The last status byte of F_POLL: it shows WIP clear, or is at the ceiling (R138). -/
theorem reaches_pollByte_last {b e : State} {xs : List SlotRec} (hr : Ready b) (hp : b.seq.pcnt < 120)
    (last : wipClear b.params (e.receivedAt b.params 1 b.seq.pcnt) = true ∨ b.seq.pcnt + 1 = 120) (rest : List Micro) :
    Reaches { b.afterReceived e 1 xs (fun _ => true) true b.seq.pcnt with plan := .act .pollByte :: rest }
      { b.afterPolls e xs (b.seq.pcnt + 1) with plan := rest } := by
  have test := zeroPollTest_eq (s := { { b with rxb := e.receivedAt b.params 1 b.seq.pcnt }.afterReceived e
    1 xs (fun _ => true) true (b.seq.pcnt + 1) with plan := rest }) hp
  exact (reaches_pollByte hr rest).of_eq (test.trans (if_pos last))

/-- A status byte of F_POLL that is not the last, up to the next one (R138). -/
theorem reaches_pollByte_more {b e : State} {xs : List SlotRec} (hr : Ready b) (hp : b.seq.pcnt < 120)
    (more : ¬(wipClear b.params (e.receivedAt b.params 1 b.seq.pcnt) = true ∨ b.seq.pcnt + 1 = 120)) (rest : List Micro) :
    Reaches { b.afterReceived e 1 xs (fun _ => true) true b.seq.pcnt with plan := .act .pollByte :: rest }
      { { b with rxb := e.receivedAt b.params 1 b.seq.pcnt, seq.pcnt := b.seq.pcnt + 1 }.afterReceived e 1 xs
          (fun _ => true) true (b.seq.pcnt + 1) with plan := .act .pollByte :: rest } := by
  have test := zeroPollTest_eq (s := { { b with rxb := e.receivedAt b.params 1 b.seq.pcnt }.afterReceived e
    1 xs (fun _ => true) true (b.seq.pcnt + 1) with plan := rest }) hp
  exact (reaches_pollByte hr rest).of_eq (test.trans (if_neg more))

/-- The status bytes of F_POLL from byte PCNT on, where `l` more are possible (R138). -/
theorem reaches_polls {e : State} {xs : List SlotRec} (l : Nat) {b : State} (hr : Ready b)
    (hl : b.seq.pcnt + (l + 1) = 120) :
    ∃ k, e.pollsTo b.params b.seq.pcnt k ∧ ∀ rest,
      Reaches { b.afterReceived e 1 xs (fun _ => true) true b.seq.pcnt with plan := .act .pollByte :: rest }
        { b.afterPolls e xs k with plan := rest } := by
  induction l generalizing b with
  | zero => exact ⟨_, State.pollsTo_succ (by omega) (.inr hl), reaches_pollByte_last hr (by omega) (.inr hl)⟩
  | succ l ih =>
    by_cases last : wipClear b.params (e.receivedAt b.params 1 b.seq.pcnt) = true ∨ b.seq.pcnt + 1 = 120
    · exact ⟨_, State.pollsTo_succ (by omega) last, reaches_pollByte_last hr (by omega) last⟩
    · obtain ⟨k, polls, rest⟩ := ih
        (b := { b with rxb := e.receivedAt b.params 1 b.seq.pcnt, seq.pcnt := b.seq.pcnt + 1 }) hr (by dsimp only; omega)
      exact ⟨k, State.pollsTo_of_succ last polls, fun ms => (reaches_pollByte_more hr (by omega) last ms).trans (rest ms)⟩

/-- The received cells of a frame with an error of the frame builder's own (R138). -/
theorem State.afterCells_raised (b e : State) (mak missed raised : Bool) (k : Nat) (xs : List SlotRec) :
    { b.afterCells e mak k missed xs with cerr := (b.afterCells e mak k missed xs).cerr || raised } =
      b.afterCells e mak k (missed || raised) xs := by
  simp only [State.afterCells, Bool.or_assoc, Bool.or_left_comm, Bool.or_comm]

/-- The slots of F_POLL between its preamble and its idle drive, `k` status bytes in it (R138). -/
def State.pollSlots (e : State) (p : Config.Params) (k : Nat) : List SlotRec :=
  e.headerTrace p 0x05#8 true ++ (List.range k).flatMap fun j =>
    rxByteTrace ((e.afterPairs (2 + 9 * j)).nextPairs 8) p.makBit (e.pairAt (2 + 9 * j + 8))

/-- The header of F_POLL, up to its first status byte. -/
theorem reaches_pollHeader {s e : State} (hr : Ready s) (same : SameAnswers s e) (rest : List Micro) :
    Reaches { s with plan := pollBody ++ rest }
      { { s with txb := 0#8, seq.fst := .payload, seq.idx := 0, seq.pcnt := 0 }.afterReceived e 1
          (e.headerTrace s.params 0x05#8 true) (fun _ => true) true 0 with plan := .act .pollByte :: rest } := by
  refine (reaches_addressed hr 0x05#8 true false _).trans ?_
  rw [State.afterAddressed, State.afterCommand_eq_afterCells same, State.afterReceived_zero]
  refine reaches_act hr.1 rfl rfl ?_
  exact reaches_act hr.1 rfl rfl (Reaches.refl _)

/-- The frame of F_POLL runs to its end, the environment answering as `e` before it. -/
theorem reaches_pollFrame {s e : State} (hr : Ready s) (same : SameAnswers s e) :
    ∃ k, e.pollsTo s.params 0 k ∧
      Reaches (s.beginFrame .poll (.op .fstart :: pollBody ++ [.op .fend]))
        { { s with rxb := e.receivedAt s.params 1 (k - 1), seq.idx := 0, seq.pcnt := k }.afterFrame e true (1 + 9 * k)
            (!((e.nextPairs 2).all (readsOne s.params) &&
                (List.range k).all fun j => readsOne s.params (e.pairAt (2 + 9 * j + 8))) ||
              !wipClear s.params (e.receivedAt s.params 1 (k - 1)))
            (e.pollSlots s.params k) with plan := s.plan } := by
  obtain ⟨k, polls, payload⟩ := reaches_polls (e := e) (xs := e.headerTrace s.params 0x05#8 true) 119
    (b := { (s.beginFrame .poll []).afterStart with txb := 0#8, seq.fst := .payload, seq.idx := 0, seq.pcnt := 0 }) hr rfl
  refine ⟨k, polls, reaches_frame (s := s)
    (t := { s.beginFrame .poll [] with rxb := e.receivedAt s.params 1 (k - 1), seq.idx := 0, seq.pcnt := k }) (f := .payload)
    hr (fun rest => (reaches_pollHeader (s := (s.beginFrame .poll []).afterStart) hr same rest).trans (payload rest)) ?_ hr⟩
  exact State.afterCells_raised ..

/-- Settles O30: F_POLL begins its frame (`exec_fPoll`), which runs to its end (`reaches_pollFrame`), with the number of status
bytes that `State.pollsTo` says; its errors are those of the header and of the bytes (`State.received_errors`), and the ceiling's. -/
theorem fPollReadsUntilClear : Obligations.FPollReadsUntilClear := by
  unfold Obligations.FPollReadsUntilClear
  intro s hr _
  obtain ⟨k, ⟨hk, top, busy, last⟩, frame⟩ := reaches_pollFrame hr (e := s) ⟨rfl, rfl⟩
  refine ⟨_, exec_fPoll s, _, frame, rfl, k, hk, top, fun j hj => ?_, ?_, ?_⟩
  · exact bne_iff_ne.mp (congrArg not (busy j (Nat.zero_le j) hj))
  · exact last.imp_left beq_iff_eq.mp
  · have cells : 1 + 9 * k + 1 = 2 + 9 * k := Nat.add_right_comm ..
    have errors := s.received_errors 1 k
    rw [cells] at errors
    simp only [State.afterFrame, cells, Bool.or_right_comm _ (!wipClear _ _), errors, State.pollSlots, State.headerTrace,
      ← Bool.or_assoc, ← List.append_assoc]
    rfl

end Sys2Proof.Machine

/-! The frames of an attempt, as the engine sees them: what each keeps, how many received cells and which slots it takes, and
whether it was clean, the environment answering as `e` before it. A frame run after another sees `e` some cells later. -/

namespace Sys2Proof.Machine

open Sys2Proof

/-! ### What a run keeps -/

/-- The elements that no frame, pulse or decision between attempts changes, the others as after a reset: the host's registers,
PRES and RESULT, N, BUSY, the parameters, the tick source and the schedule. -/
def State.kept (s : State) : State :=
  { State.reset with
    pres := s.pres, result := s.result, op := s.op, addr := s.addr, len := s.len, n := s.n, busy := s.busy
    params := s.params, tickOn := s.tickOn, bitPeriod := s.bitPeriod, schedule := s.schedule, hostData := s.hostData }

/-- SEQ and the line between two frames (R131, R139). -/
structure State.AtRest (s : State) : Prop where
  dir : s.dir = .output
  lvl : s.lvl = true
  tick : s.tickPending = false
  frame : s.seq.frame = .none
  fst : s.seq.fst = .idle
  cell : s.seq.cell = 0
  ph : s.seq.ph = 0
  wait : s.seq.wait = 0

/-- SEQ between two frames. -/
theorem State.AtRest.seq_eq {s : State} (h : s.AtRest) :
    s.seq = { s.seq with frame := .none, fst := .idle, cell := 0, ph := 0, wait := 0 } := by
  rw [← h.frame, ← h.fst, ← h.cell, ← h.ph, ← h.wait]

/-- What the frames and pulses between `s` and `u` took: `cells` received cells of the environment that answered as `e` before
them, and the slots `slots`. -/
structure Took (s e u : State) (cells : Nat) (slots : List SlotRec) : Prop where
  kept : u.kept = s.kept
  rest : u.AtRest
  answers : SameAnswers u (e.afterPairs cells)
  wire : u.wire = s.wireAfter slots

/-- The frame of a run: what it does not keep is what it left. -/
theorem State.eq_of_kept {s u : State} (h : u.kept = s.kept) :
    u = { s with
      txb := u.txb, rxb := u.rxb, makf := u.makf, lerr := u.lerr, cerr := u.cerr, bitres := u.bitres
      buf := u.buf, vbuf := u.vbuf, lock := u.lock, dir := u.dir, lvl := u.lvl, s1 := u.s1, s2 := u.s2, seq := u.seq
      plan := u.plan, tickPending := u.tickPending, samples := u.samples, free := u.free, sampleOut := u.sampleOut
      callOk := u.callOk, wire := u.wire } := by
  simp only [State.kept, State.mk.injEq, true_and, and_true] at h
  obtain ⟨pres, result, op, addr, len, n, busy, params, tickOn, bitPeriod, schedule, hostData⟩ := h
  simp only [← pres, ← result, ← op, ← addr, ← len, ← n, ← busy, ← params, ← tickOn, ← bitPeriod, ← schedule, ← hostData]

/-- The parameters are kept. -/
theorem State.params_of_kept {s u : State} (h : u.kept = s.kept) : u.params = s.params := (congrArg State.params h :)

/-- N is kept. -/
theorem State.n_of_kept {s u : State} (h : u.kept = s.kept) : u.n = s.n := (congrArg State.n h :)

/-- A ready state stays ready. -/
theorem Ready.of_kept {s u : State} (hr : Ready s) (h : u.kept = s.kept) : Ready u :=
  ⟨(congrArg State.schedule h).trans hr.1, (congrArg State.tickOn h).trans hr.2⟩

/-- The environment's answers do not touch the parameters. -/
theorem State.afterPairs_params (s : State) (k : Nat) : (s.afterPairs k).params = s.params := by
  have answered (t : State) : t.answered.params = t.params := (congrArg State.params t.answered_frame :)
  induction k generalizing s with
  | zero => rfl
  | succ k ih => rw [State.afterPairs, ih, answered, answered]

/-- `e` tells what the environment of `s` answers from now on, and how the block judges it. -/
structure AnswersAs (s e : State) : Prop where
  same : SameAnswers s e
  params : e.params = s.params

/-- After a run the environment is some cells further. -/
theorem AnswersAs.took {s e u : State} {cells : Nat} {slots : List SlotRec} (h : AnswersAs s e) (t : Took s e u cells slots) :
    AnswersAs u (e.afterPairs cells) :=
  ⟨t.answers, by rw [e.afterPairs_params, h.params, State.params_of_kept t.kept]⟩

/-- A run and another after it. -/
theorem Took.trans {s e t u : State} {j k : Nat} {xs ys : List SlotRec} (h : Took s e t j xs)
    (h' : Took t (e.afterPairs j) u k ys) : Took s e u (j + k) (xs ++ ys) where
  kept := h'.kept.trans h.kept
  rest := h'.rest
  answers := by rw [e.afterPairs_add]; exact h'.answers
  wire := by rw [h'.wire, s.wireAfter_append, State.wireAfter, h.wire]

/-- What the engine's own positions write is no part of what a run took. -/
theorem Took.withEngine {s e u : State} {j : Nat} {xs : List SlotRec} (h : Took s e u j xs) (lock ok : Bool) (top : Top) :
    Took s e { u with lock := lock, callOk := ok, seq.top := top } j xs where
  kept := h.kept
  rest := ⟨h.rest.dir, h.rest.lvl, h.rest.tick, h.rest.frame, h.rest.fst, h.rest.cell, h.rest.ph, h.rest.wait⟩
  answers := h.answers
  wire := h.wire

/-! ### A frame -/

/-- What only the engine's own positions change: LOCK, what was returned, and the operation's counters. -/
def State.engine (s : State) : Bool × Bool × Top × Nat × Nat := (s.lock, s.callOk, s.seq.top, s.seq.att, s.seq.vatt)

/-- What a frame leaves, besides its own data: `clean` tells whether it recorded no error. -/
structure Framed (s e u : State) (cells : Nat) (clean : Bool) (slots : List SlotRec) : Prop extends Took s e u cells slots where
  engine : u.engine = s.engine
  cerr : u.cerr = (s.cerr || s.lerr || !clean)
  flags : (u.cerr || u.lerr) = u.cerr

/-- A frame and another after it: both are clean where each is. -/
theorem Framed.trans {s e t u : State} {j k : Nat} {a b : Bool} {xs ys : List SlotRec} (h : Framed s e t j a xs)
    (h' : Framed t (e.afterPairs j) u k b ys) : Framed s e u (j + k) (a && b) (xs ++ ys) where
  toTook := h.toTook.trans h'.toTook
  engine := h'.engine.trans h.engine
  cerr := by rw [h'.cerr, h.flags, h.cerr, Bool.not_and, Bool.or_assoc _ (!a)]
  flags := h'.flags

/-- A frame from a state that differs from `s` in data only. -/
theorem framed_afterFrame {s t e : State} {mak missed clean : Bool} {k cells : Nat} {xs : List SlotRec}
    (kept : t.kept = s.kept) (engine : t.engine = s.engine) (cerr : t.cerr = s.cerr) (lerr : t.lerr = s.lerr)
    (wire : t.wire = s.wire) (hk : k + 1 = cells)
    (errors : (missed || (e.nextPairs cells).any (readsInvalid t.params)) = !clean) :
    Framed s e (t.afterFrame e mak k missed xs) cells clean (startTrace t.params ++ xs ++ [.high]) := by
  subst hk
  refine ⟨⟨kept, ⟨rfl, rfl, rfl, rfl, rfl, rfl, rfl, rfl⟩, ⟨rfl, rfl⟩, ?_⟩, engine, ?_, ?_⟩
  · rw [State.afterFrame, State.wireAfter, State.wireAfter, wire]
  · rw [State.afterFrame, errors, cerr, lerr]
  · rw [State.afterFrame]
    simp only [Bool.or_assoc, Bool.or_left_comm, Bool.or_comm, Bool.or_self_left, Bool.or_self]

/-! ### Slot counts (R141) -/

@[simp] theorem length_txTrace (b : Bit) : (txTrace b).length = 4 := by cases b <;> rfl

@[simp] theorem length_rxTrace (x : Level × Level) : (rxTrace x).length = 4 := rfl

@[simp] theorem length_txByteTrace (v : Byte) (mak : Bit) (x : Level × Level) : (txByteTrace v mak x).length = 40 := by
  simp [txByteTrace, bitsOf]

@[simp] theorem length_syncTrace (mak : Bit) : (syncTrace mak).length = 40 := by
  simp [syncTrace, bitsOf, offTrace]

@[simp] theorem State.length_rxByteTrace (e : State) (mak : Bit) (x : Level × Level) :
    (rxByteTrace (e.nextPairs 8) mak x).length = 40 := by
  simp [rxByteTrace, List.length_flatMap]

/-- The preamble takes FSTART's slots. -/
theorem length_startTrace {p : Config.Params} (h : p.sound = true) : (startTrace p).length = startSlots p := by
  simp only [Config.Params.sound, Bool.and_eq_true, decide_eq_true_eq] at h
  obtain ⟨⟨⟨quiet, low⟩, -⟩, -⟩ := h
  simp only [startTrace, startSlots, List.length_append, List.length_cons, List.length_replicate, length_syncTrace]
  omega

@[simp] theorem State.length_headerTrace (e : State) (p : Config.Params) (c : Byte) (mc : Bool) :
    (e.headerTrace p c mc).length = 80 := by
  simp [State.headerTrace]

@[simp] theorem State.length_addressedTrace (e : State) (p : Config.Params) (a : Half) (c : Byte) :
    (e.addressedTrace p a c).length = 160 := by
  simp [State.addressedTrace]

@[simp] theorem State.length_readSlots (e : State) (p : Config.Params) (a : Half) (n : Nat) :
    (e.readSlots p a n).length = 160 + n * 40 := by
  simp [State.readSlots, List.length_flatMap]

@[simp] theorem State.length_writeSlots (b e : State) (n : Nat) : (b.writeSlots e n).length = 160 + n * 40 := by
  simp [State.writeSlots, List.length_flatMap]

@[simp] theorem State.length_pollSlots (e : State) (p : Config.Params) (k : Nat) :
    (e.pollSlots p k).length = 80 + k * 40 := by
  simp [State.pollSlots, List.length_flatMap]

/-- A pulse takes SPULSE's slots. -/
theorem length_pulseTrace (p : Config.Params) : (pulseTrace p).length = pulseSlots p := by
  rw [pulseTrace, pulseSlots, List.length_cons, List.length_replicate, Nat.add_comm]

/-! ### The frames -/

/-- The slots of a whole frame, with the cells `xs` between its preamble and its idle drive. -/
def frameSlots (p : Config.Params) (xs : List SlotRec) : List SlotRec := startTrace p ++ xs ++ [.high]

/-- A frame takes the slots of its preamble, of its cells, and one. -/
theorem length_frameSlots {p : Config.Params} (h : p.sound = true) (xs : List SlotRec) :
    (frameSlots p xs).length = startSlots p + xs.length + 1 := by
  rw [frameSlots, List.length_append, List.length_append, length_startTrace h, List.length_singleton]

/-- The frame of F_WREN, the environment answering as `e` before it. -/
theorem reaches_wrenFrameAs {s e : State} (hr : Ready s) (same : SameAnswers s e) :
    Reaches (s.beginFrame .wren [.op .fstart, .op (.addressed Config.CMD_WREN false false), .op .fend])
      (s.afterFrame e false 1 (!(e.nextPairs 2).all (readsOne s.params)) (e.headerTrace s.params 0x96#8 false)) := by
  have body := reaches_addressed (s := (s.beginFrame .wren []).afterStart) hr 0x96#8 false false
  have began : SameAnswers (s.beginFrame .wren []).afterStart e := same
  exact reaches_frame (t := s.beginFrame .wren []) (body := [.op (.addressed 0x96#8 false false)]) hr body
    (State.afterCommand_eq_afterCells began 0x96#8 false) hr

/-- F_WREN at the head of the plan. -/
theorem reaches_fWren {s e : State} (hr : Ready s) (h : AnswersAs s e) (rest : List Micro) :
    ∃ u, Reaches { s with plan := .op .fWren :: rest } { u with plan := rest } ∧
      Framed s e u 2 (e.acksAt 2) (frameSlots s.params (e.headerTrace s.params 0x96#8 false)) ∧
      u.buf = s.buf ∧ u.vbuf = s.vbuf := by
  have frame := reaches_wrenFrameAs (s := { s with plan := rest }) (e := e) hr h.same
  refine ⟨_, reaches_op hr.1 rfl rfl (exec_fWren _) frame, framed_afterFrame rfl rfl rfl rfl rfl rfl ?_, rfl, rfl⟩
  rw [State.acksAt, h.params]
  exact not_all_readsOne_or_any_readsInvalid ..

/-- F_WRITE at the head of the plan. -/
theorem reaches_fWrite {s e : State} (hr : Ready s) (h : AnswersAs s e) (hw : Written s s.n) (rest : List Micro) :
    ∃ u, Reaches { s with plan := .op .fWrite :: rest } { u with plan := rest } ∧
      Framed s e u (4 + s.n) ((e.acksAt (4 + s.n))) (frameSlots s.params (s.writeSlots e s.n)) ∧
      u.buf = s.buf ∧ u.vbuf = s.vbuf := by
  obtain ⟨mak, frame⟩ := reaches_writeFrame (s := { s with plan := rest }) (e := e) hr h.same hw
  refine ⟨_, reaches_op hr.1 rfl rfl (exec_fWrite _) frame,
    framed_afterFrame rfl rfl rfl rfl rfl (Nat.add_right_comm ..) ?_, rfl, rfl⟩
  rw [State.acksAt, h.params]
  exact not_all_readsOne_or_any_readsInvalid ..

/-- The errors of the bytes received in a frame, judged with the block's parameters. -/
theorem AnswersAs.received_errors {s e : State} (h : AnswersAs s e) (k j : Nat) :
    (!((e.nextPairs (k + 1)).all (readsOne s.params) &&
        (List.range j).all fun i => readsOne s.params (e.pairAt (k + 1 + 9 * i + 8))) ||
      (e.nextPairs (k + 1 + 9 * j)).any (readsInvalid s.params)) =
      !(e.acksAt (k + 1) && (List.range j).all fun i => e.cleanAt (k + 1 + 9 * i)) := by
  rw [← h.params, Nat.add_right_comm k 1 (9 * j)]
  exact e.received_errors k j

/-- F_READ at the head of the plan. -/
theorem reaches_fRead {s e : State} (d : Dest) (hr : Ready s) (h : AnswersAs s e) (hn : s.n ≤ 16) (rest : List Micro) :
    ∃ u, Reaches { s with plan := .op (.fRead d) :: rest } { u with plan := rest } ∧
      Framed s e u (4 + 9 * s.n) (e.readClean s.n) (frameSlots s.params (e.readSlots s.params s.addr s.n)) ∧
      u.seq.pcnt = s.seq.pcnt ∧
      (∀ i, (u.buffer d).read i = if i < s.n then some (e.byteAt (4 + 9 * i)) else (s.buffer d).read i) ∧
      ∀ x, x ≠ d → u.buffer x = s.buffer x := by
  obtain ⟨mak, r, m, frame, hm⟩ := reaches_readFrame (s := { s with plan := rest }) (e := e) d hr h.same hn
  refine ⟨_, reaches_op hr.1 rfl rfl (exec_fRead d _) frame, ?_, ?_, fun i => ?_, fun x hx => ?_⟩
  · have errors := h.received_errors 3 s.n
    cases d <;> exact framed_afterFrame rfl rfl rfl rfl rfl (Nat.add_right_comm ..) errors
  · cases d <;> rfl
  · rw [State.byteAt, h.params]
    exact Eq.trans (b := m.read i) (by cases d <;> rfl) ((hm i).trans (by cases d <;> rfl))
  · refine Eq.trans ?_ (if_neg hx : (if x = d then m else s.buffer x) = s.buffer x)
    cases d <;> cases x <;> rfl

/-- The number of status bytes is `State.pollCount`'s (R138). -/
theorem State.pollsTo.eq_pollCount {e : State} {k : Nat} (h : e.pollsTo e.params 0 k) : k = e.pollCount := by
  obtain ⟨hk, top, busy, last⟩ := h
  have before (j : Nat) (hj : j + 1 < k) : (e.byteAt (2 + 9 * j) &&& e.params.wipMask == 0#8) = false :=
    busy j (Nat.zero_le j) hj
  suffices first : (List.range 119).findIdx (fun j => e.byteAt (2 + 9 * j) &&& e.params.wipMask == 0#8) = k - 1 by
    rw [State.pollCount, first, Nat.sub_add_cancel hk]
  obtain rfl | below := Nat.eq_or_lt_of_le top
  · refine List.findIdx_eq_length.mpr fun j hj => before j ?_
    have := List.mem_range.mp hj
    omega
  · have index : k - 1 < (List.range 119).length := by rw [List.length_range]; omega
    refine (List.findIdx_eq index).mpr ⟨?_, fun j hj => ?_⟩
    · rw [List.getElem_range]
      exact last.resolve_right (by omega)
    · rw [List.getElem_range]
      exact before j (by omega)

/-- F_POLL at the head of the plan. -/
theorem reaches_fPoll {s e : State} (hr : Ready s) (h : AnswersAs s e) (rest : List Micro) :
    ∃ u, Reaches { s with plan := .op .fPoll :: rest } { u with plan := rest } ∧
      Framed s e u (2 + 9 * e.pollCount) e.pollClean (frameSlots s.params (e.pollSlots s.params e.pollCount)) ∧
      u.buf = s.buf ∧ u.vbuf = s.vbuf := by
  obtain ⟨k, polls, frame⟩ := reaches_pollFrame (s := { s with plan := rest }) (e := e) hr h.same
  have count : k = e.pollCount := State.pollsTo.eq_pollCount (h.params ▸ polls)
  subst count
  refine ⟨_, reaches_op hr.1 rfl rfl (exec_fPoll _) frame,
    framed_afterFrame rfl rfl rfl rfl rfl (Nat.add_right_comm ..) ?_, rfl, rfl⟩
  have errors := h.received_errors 1 e.pollCount
  rw [Bool.or_right_comm, errors, State.pollClean, Bool.not_and _ (_ == _), ← h.params]
  rfl

end Sys2Proof.Machine

/-! ReadCore, Verify and READ (R163, R166, R167): an attempt, the loop of attempts by induction on those that are left, and what
the outcome of the loop says. -/

namespace Sys2Proof.Machine

open Sys2Proof

/-! ### Attempts -/

/-- The state in which the frames of an attempt begin (R33, R169). -/
def State.opened (s : State) : State := { s.linkReset with lock := true }

/-- An attempt is opened: LinkReset, and LOCK set (R169). -/
theorem reaches_opened {s : State} (hr : Ready s) (rest : List Micro) :
    Reaches { s with plan := .op .linkreset :: .act (.lock true) :: rest } { s.opened with plan := rest } := by
  refine reaches_op hr.1 rfl rfl (exec_linkreset _) ?_
  exact reaches_act hr.1 rfl rfl (Reaches.refl _)

/-- What READ attempts into `d` left. -/
structure ReadTook (d : Dest) (s e u : State) (tries cells : Nat) (slots : List SlotRec) : Prop
    extends Took s e u cells slots where
  lock : u.lock = false
  top : u.seq.top = s.seq.top
  pcnt : u.seq.pcnt = s.seq.pcnt
  count : u.readCount d = s.readCount d + tries
  above : ∀ i, s.n ≤ i → (u.buffer d).read i = (s.buffer d).read i
  others : ∀ x, x ≠ d → u.buffer x = s.buffer x ∧ u.readCount x = s.readCount x

/-- READ attempts and more of them. -/
theorem ReadTook.trans {d : Dest} {s e t u : State} {a b j k : Nat} {xs ys : List SlotRec} (h : ReadTook d s e t a j xs)
    (h' : ReadTook d t (e.afterPairs j) u b k ys) : ReadTook d s e u (a + b) (j + k) (xs ++ ys) where
  toTook := h.toTook.trans h'.toTook
  lock := h'.lock
  top := h'.top.trans h.top
  pcnt := h'.pcnt.trans h.pcnt
  count := by rw [h'.count, h.count, Nat.add_assoc]
  above i hi := (h'.above i (by rwa [State.n_of_kept h.kept])).trans (h.above i hi)
  others x hx := ⟨(h'.others x hx).1.trans (h.others x hx).1, (h'.others x hx).2.trans (h.others x hx).2⟩

/-- The slots of an F_READ in `s`, the environment answering as `e` before it. -/
def State.readFrame (s e : State) : List SlotRec := frameSlots s.params (e.readSlots s.params s.addr s.n)

/-- The slots of F_READ depend on what a run keeps. -/
theorem State.readFrame_of_kept {s u : State} (h : u.kept = s.kept) (e : State) : u.readFrame e = s.readFrame e := by
  have addr : u.addr = s.addr := (congrArg State.addr h :)
  rw [State.readFrame, State.readFrame, State.params_of_kept h, State.n_of_kept h, addr]

/-- R141: F_READ takes its slots. -/
theorem State.length_readFrame {s : State} (hs : s.params.sound = true) (e : State) :
    (s.readFrame e).length = transferSlots s.params s.n := by
  rw [State.readFrame, length_frameSlots hs, State.length_readSlots, startSlots, transferSlots]
  omega

/-- A READ attempt is begun: it is counted, and opened (R166). -/
theorem reaches_readOpened {s : State} (d : Dest) (hr : Ready s) (hc : s.readCount d < 3) (rest : List Micro) :
    ∃ a v, Reaches { s with plan := .act (.readAttempt d) :: rest }
        { { s with seq.att := a, seq.vatt := v }.opened with
          plan := .op (.fRead d) :: .act (.lock false) :: .act (.readDecide d) :: rest } ∧
      ∀ x, { s with seq.att := a, seq.vatt := v }.readCount x = if x = d then s.readCount d + 1 else s.readCount x := by
  have attempt := zeroReadAttempt_of_lt (s := { s with plan := rest }) (d := d) (by rwa [State.readCount_withPlan])
  have opened (a v : Nat) := reaches_opened (s := { s with seq.att := a, seq.vatt := v }) hr
    (.op (.fRead d) :: .act (.lock false) :: .act (.readDecide d) :: rest)
  cases d with
  | buf =>
    exact ⟨s.seq.att + 1, s.seq.vatt, reaches_act hr.1 rfl (congrArg Host.Outcome.next attempt) (opened _ _),
      fun x => by cases x <;> rfl⟩
  | vbuf =>
    exact ⟨s.seq.att, s.seq.vatt + 1, reaches_act hr.1 rfl (congrArg Host.Outcome.next attempt) (opened _ _),
      fun x => by cases x <;> rfl⟩

/-- A frame leaves the counters of attempts. -/
theorem State.readCount_of_engine {s u : State} (h : u.engine = s.engine) (x : Dest) : u.readCount x = s.readCount x := by
  cases x with
  | buf => exact congrArg (·.2.2.2.1) h
  | vbuf => exact congrArg (·.2.2.2.2) h

/-- A READ attempt, up to its decision (R166). -/
theorem reaches_readAttempt {s e : State} (d : Dest) (hr : Ready s) (h : AnswersAs s e) (hn : s.n ≤ 16)
    (hc : s.readCount d < 3) (rest : List Micro) :
    ∃ u, Reaches { s with plan := .act (.readAttempt d) :: rest } { u with plan := .act (.readDecide d) :: rest } ∧
      ReadTook d s e u 1 (4 + 9 * s.n) (s.readFrame e) ∧ u.cerr = !e.readClean s.n ∧
      ∀ i, i < s.n → (u.buffer d).read i = some (e.byteAt (4 + 9 * i)) := by
  obtain ⟨a, v, opened, count⟩ := reaches_readOpened d hr hc rest
  obtain ⟨u, frame, framed, pcnt, bytes, others⟩ := reaches_fRead (s := { s with seq.att := a, seq.vatt := v }.opened) d hr
    (e := e) ⟨h.same, h.params⟩ hn (.act (.lock false) :: .act (.readDecide d) :: rest)
  have took := framed.toTook.withEngine false u.callOk u.seq.top
  have engine := framed.engine
  have buffer (x : Dest) : { u with lock := false }.buffer x = u.buffer x := by cases x <;> rfl
  have before (x : Dest) : { s with seq.att := a, seq.vatt := v }.opened.buffer x = s.buffer x := by cases x <;> rfl
  have counts (x : Dest) : { u with lock := false }.readCount x = if x = d then s.readCount d + 1 else s.readCount x := by
    refine Eq.trans ?_ ((State.readCount_of_engine engine x).trans (Eq.trans ?_ (count x))) <;> cases x <;> rfl
  have ready : Ready u := Ready.of_kept (s := { s with seq.att := a, seq.vatt := v }.opened) hr framed.kept
  refine ⟨{ u with lock := false }, opened.trans (frame.trans (reaches_act ready.1 rfl rfl (Reaches.refl _))), ?_, framed.cerr,
    fun i hi => ?_⟩
  · refine ⟨⟨took.kept, took.rest, took.answers, took.wire⟩, rfl, ?_, pcnt, ?_, fun i hi => ?_, fun x hx => ?_⟩
    · exact congrArg (·.2.2.1) engine
    · exact (counts d).trans (if_pos rfl)
    · rw [buffer, ← before]
      exact (bytes i).trans (if_neg (Nat.not_lt_of_le hi))
    · exact ⟨by rw [buffer, others x hx, before], (counts x).trans (if_neg hx)⟩
  · rw [buffer, bytes]
    exact if_pos hi

/-! ### The loop of attempts -/

/-- A pulse between two attempts (R168). -/
theorem Took.pulse {s e : State} (h : SameAnswers s e) (hr : s.AtRest) : Took s e s.afterPulse 0 (pulseTrace s.params) where
  kept := rfl
  rest := ⟨rfl, rfl, rfl, rfl, rfl, hr.cell, hr.ph, rfl⟩
  answers := h
  wire := rfl

/-- A pulse between two READ attempts. -/
theorem ReadTook.pulse {d : Dest} {s e : State} (h : SameAnswers s e) (hl : s.lock = false) (hr : s.AtRest) :
    ReadTook d s e s.afterPulse 0 0 (pulseTrace s.params) where
  toTook := .pulse h hr
  lock := hl
  top := rfl
  pcnt := rfl
  count := by cases d <;> rfl
  above i _ := by cases d <;> rfl
  others x _ := by cases x <;> exact ⟨rfl, rfl⟩

/-- What ReadCore leaves: the outcome `r` of its attempts. -/
structure ReadDone (d : Dest) (s e u : State) (r : Attempts) (slots : List SlotRec) : Prop
    extends ReadTook d s e u r.tries r.cells slots where
  callOk : u.callOk = r.ok
  cerr : u.cerr = !r.ok
  bytes : ∀ i, i < s.n → (u.buffer d).read i = r.bytes[i]?
  length : slots.length = r.slots

/-- What was returned is no part of what the attempts left. -/
theorem ReadTook.returned {d : Dest} {s e u : State} {a j : Nat} {xs : List SlotRec} (h : ReadTook d s e u a j xs) (b : Bool) :
    ReadTook d s e { u with callOk := b } a j xs := by
  have buffer (x : Dest) : { u with callOk := b }.buffer x = u.buffer x := by cases x <;> rfl
  have counts (x : Dest) : { u with callOk := b }.readCount x = u.readCount x := by cases x <;> rfl
  obtain ⟨took, lock, top, pcnt, count, above, others⟩ := h
  exact ⟨took.withEngine u.lock b u.seq.top, lock, top, pcnt, (counts d).trans count, by rwa [buffer],
    by simpa only [buffer, counts] using others⟩

/-- The outcome of an attempt that failed, in so many received cells and slots, and of those after it. -/
def Attempts.after (r : Attempts) (cells slots : Nat) : Attempts :=
  ⟨r.ok, r.tries + 1, cells + r.cells, slots + r.slots, r.bytes⟩

@[simp] theorem Attempts.after_ok (r : Attempts) (c l : Nat) : (r.after c l).ok = r.ok := rfl
@[simp] theorem Attempts.after_tries (r : Attempts) (c l : Nat) : (r.after c l).tries = r.tries + 1 := rfl
@[simp] theorem Attempts.after_cells (r : Attempts) (c l : Nat) : (r.after c l).cells = c + r.cells := rfl
@[simp] theorem Attempts.after_slots (r : Attempts) (c l : Nat) : (r.after c l).slots = l + r.slots := rfl
@[simp] theorem Attempts.after_bytes (r : Attempts) (c l : Nat) : (r.after c l).bytes = r.bytes := rfl

/-- An attempt before a ReadCore's last ones. -/
theorem ReadDone.after {d : Dest} {s e t u : State} {j : Nat} {xs ys : List SlotRec} {r : Attempts}
    (h : ReadTook d s e t 1 j xs) (h' : ReadDone d t (e.afterPairs j) u r ys) :
    ReadDone d s e u (r.after j xs.length) (xs ++ ys) where
  toReadTook := by rw [Attempts.after_tries, Nat.add_comm]; exact h.trans h'.toReadTook
  callOk := h'.callOk
  cerr := h'.cerr
  bytes i hi := h'.bytes i (by rwa [State.n_of_kept h.kept])
  length := by rw [List.length_append, h'.length, Attempts.after_slots]

/-- With no attempt left ReadCore fills with zeros (R166). -/
theorem reaches_zeroFill {s e : State} {d : Dest} (hr : Ready s) (h : AnswersAs s e) (hc : 3 ≤ s.readCount d) (ha : s.AtRest)
    (hl : s.lock = false) (he : s.cerr = true) (rest : List Micro) :
    ∃ u, Reaches { s with plan := .act (.readAttempt d) :: rest } { u with plan := rest } ∧
      ReadDone d s e u (readAttempts s.n 0 e) [] := by
  have fill := zeroReadAttempt_of_le (s := { s with plan := rest }) (d := d) (by rwa [State.readCount_withPlan])
  have filled (x : Dest) : { s.setBuffer d ((s.buffer d).zeroFill s.n) with callOk := false }.buffer x =
      if x = d then (s.buffer d).zeroFill s.n else s.buffer x := by cases d <;> cases x <;> rfl
  refine ⟨{ s.setBuffer d ((s.buffer d).zeroFill s.n) with callOk := false }, ?_, ?_⟩
  · cases d <;> exact reaches_act hr.1 rfl (congrArg Host.Outcome.next fill) (Reaches.refl _)
  · have took : Took s e { s.setBuffer d ((s.buffer d).zeroFill s.n) with callOk := false } 0 [] := by
      obtain ⟨dir, lvl, tick, frame, fst, cell, ph, wait⟩ := ha
      cases d <;> exact ⟨rfl, ⟨dir, lvl, tick, frame, fst, cell, ph, wait⟩, h.same, rfl⟩
    refine ⟨⟨took, ?_, ?_, ?_, ?_, fun i hi => ?_, fun x hx => ⟨(filled x).trans (if_neg hx), ?_⟩⟩, rfl, ?_, fun i hi => ?_, rfl⟩
    · cases d <;> exact hl
    · cases d <;> rfl
    · cases d <;> rfl
    · cases d <;> rfl
    · rw [filled, if_pos rfl, Memory.read_zeroFill, if_neg (Nat.not_lt_of_le hi)]
    · cases d <;> cases x <;> rfl
    · cases d <;> exact he
    · rw [filled, if_pos rfl, Memory.read_zeroFill, if_pos hi, readAttempts, List.getElem?_replicate_of_lt hi]

/-- A clean READ attempt ends them. -/
theorem readAttempts_clean {n k : Nat} {s : State} (h : s.readClean n = true) :
    readAttempts n (k + 1) s = ⟨true, 1, 4 + 9 * n, transferSlots s.params n, s.readBytes n⟩ :=
  if_pos h

/-- A READ attempt that is not clean is followed by a pulse and the others. -/
theorem readAttempts_unclean {n k : Nat} {s : State} (h : s.readClean n = false) :
    readAttempts n (k + 1) s = (readAttempts n k (s.afterPairs (4 + 9 * n))).after (4 + 9 * n)
      (transferSlots s.params n + pulseSlots s.params) :=
  if_neg (Bool.eq_false_iff.mp h)

/-- R166, R168: the loop of ReadCore with `k` attempts left. -/
theorem reaches_readLoop {d : Dest} (k : Nat) {s e : State} (hr : Ready s) (h : AnswersAs s e) (hs : s.params.sound = true)
    (hn : s.n ≤ 16)
    (hc : s.readCount d + k = 3) (hz : k = 0 → s.AtRest ∧ s.lock = false ∧ s.cerr = true) (rest : List Micro) :
    ∃ u slots, Reaches { s with plan := .act (.readAttempt d) :: rest } { u with plan := rest } ∧
      ReadDone d s e u (readAttempts s.n k e) slots ∧ (k ≠ 0 → e.readClean s.n = true → slots = s.readFrame e) := by
  induction k generalizing s e with
  | zero =>
    obtain ⟨ha, hl, he⟩ := hz rfl
    obtain ⟨u, fill, done⟩ := reaches_zeroFill hr h hc.ge ha hl he rest
    exact ⟨u, [], fill, done, fun h => absurd rfl h⟩
  | succ k ih =>
    obtain ⟨t, attempt, took, cerr, bytes⟩ := reaches_readAttempt d hr h hn (by omega) rest
    have hrt := hr.of_kept took.kept
    cases hclean : e.readClean s.n with
    | true =>
      rw [hclean] at cerr
      have decide : zeroReadDecide d { t with plan := rest } = { t with callOk := true, plan := rest } :=
        if_neg (by simp [cerr])
      refine ⟨{ t with callOk := true }, s.readFrame e, attempt.trans
        (reaches_act hrt.1 rfl (congrArg Host.Outcome.next decide) (Reaches.refl _)), ?_, fun _ _ => rfl⟩
      rw [readAttempts_clean hclean]
      refine ⟨took.returned true, rfl, cerr, fun i hi => ?_, by rw [s.length_readFrame hs, h.params]⟩
      have buffer : { t with callOk := true }.buffer d = t.buffer d := by cases d <;> rfl
      rw [buffer, bytes i hi, State.readBytes, List.getElem?_map, List.getElem?_range hi]
      rfl
    | false =>
      rw [hclean] at cerr
      have decide : zeroReadDecide d { t with plan := rest } = { t with plan := rest }.recover (.readAttempt d) := if_pos cerr
      have pulse := took.trans (.pulse took.answers took.lock took.rest)
      obtain ⟨u, slots, loop, done, -⟩ := ih (s := t.afterPulse) (e := e.afterPairs (4 + 9 * s.n)) hrt
        (h.took pulse.toTook) (by rwa [State.params_of_kept pulse.kept]) (by rwa [State.n_of_kept pulse.kept])
        (by rw [pulse.count]; omega) (fun _ => ⟨pulse.rest, took.lock, cerr⟩)
      refine ⟨u, s.readFrame e ++ pulseTrace t.params ++ slots, ?_, ?_, fun _ hc => ?_⟩
      · refine attempt.trans (reaches_act hrt.1 rfl (congrArg Host.Outcome.next decide) ?_)
        exact (reaches_spulse hrt _).trans loop
      · rw [readAttempts_unclean hclean]
        rw [State.n_of_kept pulse.kept] at done
        have length : (s.readFrame e ++ pulseTrace t.params).length = transferSlots e.params s.n + pulseSlots e.params := by
          rw [List.length_append, s.length_readFrame hs, length_pulseTrace, State.params_of_kept took.kept, h.params]
        have whole := done.after pulse
        rwa [length] at whole
      · exact absurd hc (by simp)

/-! ### What the outcome of the attempts says -/

/-- The environment after an attempt and `j` more of them. -/
theorem State.afterPairs_succ_mul (s : State) (j c : Nat) : (s.afterPairs c).afterPairs (j * c) = s.afterPairs ((j + 1) * c) := by
  rw [← s.afterPairs_add, Nat.succ_mul, Nat.add_comm]

/-- Every READ attempt takes the received cells of its frame. -/
theorem readAttempts_cells (n k : Nat) (s : State) :
    (readAttempts n k s).cells = (readAttempts n k s).tries * (4 + 9 * n) := by
  induction k generalizing s with
  | zero => exact (Nat.zero_mul _).symm
  | succ k ih =>
    cases h : s.readClean n with
    | true => rw [readAttempts_clean h, Nat.one_mul]
    | false =>
      rw [readAttempts_unclean h, Attempts.after_cells, ih]
      exact (Nat.add_comm ..).trans (Nat.succ_mul ..).symm

/-- READ attempts leave as many bytes as were asked for. -/
theorem readAttempts_length (n k : Nat) (s : State) : (readAttempts n k s).bytes.length = n := by
  induction k generalizing s with
  | zero => exact List.length_replicate
  | succ k ih =>
    cases h : s.readClean n with
    | true => rw [readAttempts_clean h, State.readBytes, List.length_map, List.length_range]
    | false => rw [readAttempts_unclean h]; exact ih _

/-- READ attempts leave every byte asked for. -/
theorem readAttempts_isSome {n k i : Nat} {s : State} (hi : i < n) : ((readAttempts n k s).bytes[i]?).isSome = true := by
  rw [List.getElem?_eq_getElem (by rwa [readAttempts_length])]
  rfl

/-- READ attempts that all fail: none was clean, and the bytes are zero. -/
theorem readAttempts_failed {n k : Nat} {s : State} (h : (readAttempts n k s).ok = false) :
    (readAttempts n k s).tries = k ∧ (∀ j, j < k → (s.afterPairs (j * (4 + 9 * n))).readClean n = false) ∧
      (readAttempts n k s).bytes = List.replicate n 0x00#8 ∧
      (readAttempts n k s).slots = k * (transferSlots s.params n + pulseSlots s.params) := by
  induction k generalizing s with
  | zero => exact ⟨rfl, fun j hj => absurd hj (Nat.not_lt_zero j), rfl, (Nat.zero_mul _).symm⟩
  | succ k ih =>
    cases hc : s.readClean n with
    | true => rw [readAttempts_clean hc] at h; cases h
    | false =>
      rw [readAttempts_unclean hc] at h ⊢
      obtain ⟨tries, unclean, bytes, slots⟩ := ih h
      refine ⟨congrArg (· + 1) tries, fun j hj => ?_, bytes, ?_⟩
      · cases j with
        | zero => rwa [Nat.zero_mul]
        | succ j => rw [← s.afterPairs_succ_mul]; exact unclean j (Nat.lt_of_succ_lt_succ hj)
      · rw [Attempts.after_slots, slots, s.afterPairs_params]
        exact (Nat.add_comm ..).trans (Nat.succ_mul ..).symm

/-- READ attempts of which one succeeds: it is the first that was clean, and the bytes are its bytes. -/
theorem readAttempts_succeeded {n k : Nat} {s : State} (h : (readAttempts n k s).ok = true) :
    ∃ a, a < k ∧ (readAttempts n k s).tries = a + 1 ∧
      (∀ j, j < a → (s.afterPairs (j * (4 + 9 * n))).readClean n = false) ∧
      (s.afterPairs (a * (4 + 9 * n))).readClean n = true ∧
      (readAttempts n k s).bytes = (s.afterPairs (a * (4 + 9 * n))).readBytes n ∧
      (readAttempts n k s).slots = (a + 1) * transferSlots s.params n + a * pulseSlots s.params := by
  induction k generalizing s with
  | zero => cases h
  | succ k ih =>
    cases hc : s.readClean n with
    | true =>
      rw [readAttempts_clean hc]
      exact ⟨0, Nat.succ_pos k, rfl, fun j hj => absurd hj (Nat.not_lt_zero j), by rwa [Nat.zero_mul], by rw [Nat.zero_mul]; rfl,
        by rw [Nat.zero_mul, Nat.zero_add, Nat.one_mul, Nat.add_zero]⟩
    | false =>
      rw [readAttempts_unclean hc] at h ⊢
      obtain ⟨a, ha, tries, unclean, clean, bytes, slots⟩ := ih h
      rw [s.afterPairs_succ_mul] at clean bytes
      refine ⟨a + 1, Nat.succ_lt_succ ha, congrArg (· + 1) tries, fun j hj => ?_, clean, bytes, ?_⟩
      · cases j with
        | zero => rwa [Nat.zero_mul]
        | succ j => rw [← s.afterPairs_succ_mul]; exact unclean j (Nat.lt_of_succ_lt_succ hj)
      · rw [Attempts.after_slots, slots, s.afterPairs_params]
        ring

/-! ### ReadCore -/

/-- ReadCore, from its counter's reset on (R166). -/
theorem reaches_readcore {s e : State} (d : Dest) (hr : Ready s) (h : AnswersAs s e) (hs : s.params.sound = true)
    (hn : s.n ≤ 16) :
    ∃ u slots, Reaches ((s.setReadCount d 0).push [.act (.readAttempt d)]) { u with plan := s.plan } ∧
      ReadDone d (s.setReadCount d 0) e u (readAttempts s.n 3 e) slots ∧
      (e.readClean s.n = true → slots = s.readFrame e) := by
  have zero : (s.setReadCount d 0).readCount d + 3 = 3 := by cases d <;> rfl
  have n : (s.setReadCount d 0).n = s.n := by cases d <;> rfl
  obtain ⟨u, slots, loop, done, first⟩ := reaches_readLoop 3 (s := s.setReadCount d 0) (e := e) (by cases d <;> exact hr)
    (by cases d <;> exact ⟨h.same, h.params⟩) (by cases d <;> exact hs) (n.le.trans hn) zero (fun h => by cases h) s.plan
  rw [n] at done first
  refine ⟨u, slots, ?_, done, fun hc => (first (by decide) hc).trans ?_⟩
  · cases d <;> exact loop
  · cases d <;> rfl

/-- The frame of what ReadCore leaves: what its attempts do not keep is what they left. -/
theorem ReadTook.eq {d : Dest} {s e u : State} {a j : Nat} {xs : List SlotRec} (h : ReadTook d s e u a j xs) :
    u = { s with
      txb := u.txb, rxb := u.rxb, makf := u.makf, lerr := u.lerr, cerr := u.cerr, bitres := u.bitres
      buf := u.buf, vbuf := u.vbuf, lock := false, dir := .output, lvl := true, s1 := u.s1, s2 := u.s2
      seq := { s.seq with att := u.seq.att, vatt := u.seq.vatt, frame := .none, fst := .idle, idx := u.seq.idx,
                          cell := 0, ph := 0, wait := 0 }
      plan := u.plan, tickPending := false, samples := u.samples, free := u.free, sampleOut := u.sampleOut
      callOk := u.callOk, wire := u.wire } := by
  have seq : u.seq = { s.seq with
      att := u.seq.att, vatt := u.seq.vatt, frame := .none, fst := .idle, idx := u.seq.idx, cell := 0, ph := 0, wait := 0 } :=
    h.rest.seq_eq.trans (by dsimp only; rw [h.top, h.pcnt])
  refine (State.eq_of_kept h.kept).trans ?_
  rw [h.lock, h.rest.dir, h.rest.lvl, h.rest.tick]
  conv_lhs => rw [seq]

/-- Settles O31: READCORE runs its loop of attempts (`reaches_readcore`), whose outcome is a success of its first clean attempt
(`readAttempts_succeeded`) or the zero fill after three that were not clean (`readAttempts_failed`). -/
theorem readcoreMakesAtMostThreeAttempts : Obligations.ReadcoreMakesAtMostThreeAttempts := by
  unfold Obligations.ReadcoreMakesAtMostThreeAttempts
  intro s d hr hs hn
  obtain ⟨u, slots, loop, done, -⟩ := reaches_readcore d hr (e := s) ⟨⟨rfl, rfl⟩, rfl⟩ hs hn
  have buffer (x : Dest) : (s.setReadCount d 0).buffer x = s.buffer x := by cases d <;> cases x <;> rfl
  have n : (s.setReadCount d 0).n = s.n := by cases d <;> rfl
  have cerr : u.cerr = !u.callOk := by rw [done.cerr, done.callOk]
  have count : u.readCount d = (readAttempts s.n 3 s).tries := by
    rw [done.count, State.readCount_setReadCount, if_pos rfl, Nat.zero_add]
  have wire : u.wire.length = s.wire.length + (readAttempts s.n 3 s).slots := by
    have before : (s.setReadCount d 0).wire = s.wire := by cases d <;> rfl
    rw [done.wire, State.wireAfter, List.length_append, List.length_reverse, done.length, Nat.add_comm, before]
  have bytes (i : Nat) (hi : i < s.n) := done.bytes i (by rwa [n])
  refine ⟨_, rfl, _, loop, rfl, ?_, fun i hi => ?_, fun i hi => ?_, fun x hx => ⟨?_, ?_⟩, ?_⟩
  · simp only [State.readCount_withPlan, State.buffer_withPlan]
    have same := done.answers
    rw [readAttempts_cells, ← count] at same
    cases hok : (readAttempts s.n 3 s).ok with
    | true =>
      obtain ⟨a, ha, tries, unclean, clean, hbytes, slots⟩ := readAttempts_succeeded hok
      rw [tries] at count
      rw [count] at same
      refine ⟨a + 1, Nat.succ_pos a, ha, count, fun j hj => unclean j (Nat.lt_of_succ_lt_succ hj), same.1, same.2, .inl
        ⟨done.callOk.trans hok, clean, fun i hi => ?_, ?_⟩⟩
      · rw [bytes i hi, hbytes, State.readBytes, List.getElem?_map, List.getElem?_range hi]
        rfl
      · rw [wire, slots, Nat.add_assoc]
        rfl
    | false =>
      obtain ⟨tries, unclean, hbytes, slots⟩ := readAttempts_failed hok
      rw [tries] at count
      rw [count] at same
      refine ⟨3, by decide, by decide, count, fun j hj => unclean j (by omega), same.1, same.2, .inr
        ⟨done.callOk.trans hok, rfl, unclean 2 (by decide), fun i hi => ?_, by rw [wire, slots]⟩⟩
      rw [bytes i hi, hbytes, List.getElem?_replicate_of_lt hi]
  · rw [State.buffer_withPlan, bytes i hi, readAttempts_isSome hi]
  · rw [State.buffer_withPlan, done.above i (by rwa [n]), buffer]
  · rw [State.buffer_withPlan, (done.others x hx).1, buffer]
  · rw [State.readCount_withPlan, (done.others x hx).2, State.readCount_setReadCount, if_neg hx]
  · have eq := done.eq
    rw [cerr] at eq
    exact (congrArg (fun v : State => { v with plan := s.plan }) eq).trans (by cases d <;> rfl)

end Sys2Proof.Machine

/-! READ and PRESENCE as host operations (R162, R163): each begins with BUSY set, runs its attempts and completes with RESULT. -/

namespace Sys2Proof.Machine

open Sys2Proof

/-! ### Completion -/

/-- The frame of an operation that completes: what its run did not keep is what it left, SEQ and LOCK as R161 has them. -/
theorem Took.complete_eq {b e v : State} {j : Nat} {xs : List SlotRec} (h : Took b e v j xs) (r : Bool) (ms : List Micro) :
    { v.complete (some r) with plan := ms } = { b with
      txb := v.txb, rxb := v.rxb, makf := v.makf, lerr := v.lerr, cerr := v.cerr, bitres := v.bitres, result := r
      buf := v.buf, vbuf := v.vbuf, busy := false, lock := false, dir := .output, lvl := true, s1 := v.s1, s2 := v.s2
      seq := Seq.idle, plan := ms, tickPending := false, samples := v.samples, free := v.free, sampleOut := v.sampleOut
      callOk := v.callOk, wire := v.wire } := by
  have eq := State.eq_of_kept h.kept
  rw [h.rest.dir, h.rest.lvl, h.rest.tick] at eq
  exact congrArg (fun w : State => { w.complete (some r) with plan := ms }) eq

/-- The slots that a run has added to the slot trace. -/
theorem Took.length_wire {s e u : State} {j : Nat} {xs : List SlotRec} (h : Took s e u j xs) :
    u.wire.length = s.wire.length + xs.length := by
  rw [h.wire, State.wireAfter, List.length_append, List.length_reverse, Nat.add_comm]

/-! ### READ -/

/-- The state in which a READ's ReadCore begins (R160, R163, R166). -/
def State.begunRead (s : State) (len : Byte) (addr : Half) : State :=
  { s with op := 1#2, len := len, addr := addr, busy := true, n := clampLen len, tickPending := false, seq.top := .read
           plan := .act .finishRead :: s.plan }

/-- R163: a READ of at least one byte runs ReadCore and completes with what it returned. -/
theorem reaches_readCommand {s : State} {len : Byte} {addr : Half} (hr : Ready s) (hs : s.params.sound = true)
    (hl : len ≠ 0#8) :
    ∃ v slots, Reaches { s with op := 1#2, len := len, addr := addr }.hostStart
        { v.complete (some v.callOk) with plan := s.plan } ∧
      ReadDone .buf ((s.begunRead len addr).setReadCount .buf 0) s v (readAttempts (clampLen len) 3 s) slots ∧
      (s.readClean (clampLen len) = true → slots = (s.begunRead len addr).readFrame s) := by
  obtain ⟨v, slots, loop, done, first⟩ := reaches_readcore .buf (e := s) (s := s.begunRead len addr) hr ⟨⟨rfl, rfl⟩, rfl⟩ hs
    (Nat.min_le_right ..)
  refine ⟨v, slots, ?_, done, first⟩
  have ready : Ready v := Ready.of_kept (s := (s.begunRead len addr).setReadCount .buf 0) hr done.kept
  rw [State.hostStart_read rfl hl]
  refine reaches_op hr.1 rfl rfl rfl (loop.trans ?_)
  exact reaches_act ready.1 rfl rfl (Reaches.refl _)

/-- Settles O34: a READ runs ReadCore (`reaches_readCommand`), and RESULT is whether one of its attempts was clean
(`readAttempts_succeeded`, `readAttempts_failed`). -/
theorem readEndsWithDataOrZero : Obligations.ReadEndsWithDataOrZero := by
  unfold Obligations.ReadEndsWithDataOrZero
  intro s len addr hr hs hb hl
  obtain ⟨v, slots, reaches, done, -⟩ := reaches_readCommand (addr := addr) hr hs hl
  have wire := done.length_wire
  rw [done.length] at wire
  refine completes_command rfl hb reaches rfl ⟨?_, fun i hi => ?_, fun i hi => done.above i hi, ?_⟩
  · cases hok : (readAttempts (clampLen len) 3 s).ok with
    | true =>
      obtain ⟨a, ha, -, -, -, -, slots⟩ := readAttempts_succeeded hok
      rw [slots, ← Nat.add_assoc] at wire
      exact .inl ⟨done.callOk.trans hok, a + 1, Nat.succ_pos a, ha, wire⟩
    | false =>
      obtain ⟨-, -, bytes, slots⟩ := readAttempts_failed hok
      rw [slots] at wire
      refine .inr ⟨done.callOk.trans hok, fun i hi => ?_, wire⟩
      exact (done.bytes i hi).trans (by rw [bytes]; exact List.getElem?_replicate_of_lt hi)
  · exact (congrArg Option.isSome (done.bytes i hi)).trans (readAttempts_isSome hi)
  · have cerr : v.cerr = !v.callOk := by rw [done.cerr, done.callOk]
    have vbuf : v.vbuf = s.vbuf := (done.others .vbuf (by decide)).1
    refine (done.complete_eq v.callOk s.plan).trans ?_
    rw [cerr, vbuf]
    rfl

/-! ### PRESENCE -/

/-- The slots of F_PRESENCE between its preamble and its idle drive (R133). -/
def State.presenceSlots (e : State) (p : Config.Params) : List SlotRec :=
  e.headerTrace p 0x05#8 true ++ rxByteTrace ((e.afterPairs 2).nextPairs 8) (!p.makBit) (e.pairAt 10)

/-- R141: F_PRESENCE takes its slots. -/
theorem State.length_presenceSlots {p : Config.Params} (h : p.sound = true) (e : State) :
    (frameSlots p (e.presenceSlots p)).length = Machine.presenceSlots p := by
  rw [length_frameSlots h, State.presenceSlots, List.length_append, State.length_headerTrace, State.length_rxByteTrace,
    startSlots, Machine.presenceSlots]

/-- The frame of F_PRESENCE, the environment answering as `e` before it. -/
theorem reaches_presenceFrameAs {s e : State} (hr : Ready s) (same : SameAnswers s e) :
    Reaches (s.beginFrame .presence (.op .fstart :: presenceBody ++ [.op .fend]))
      ({ s with rxb := e.receivedAt s.params 1 0, pres := !(s.cerr || s.lerr) && readsOne s.params (e.pairAt 0),
                seq.idx := 0 }.afterFrame e false 10
        (!(e.nextPairs 2).all (readsOne s.params) || !readsOne s.params (e.pairAt 10)) (e.presenceSlots s.params)) := by
  have began : SameAnswers (s.beginFrame .presence []).afterStart e := same
  have cells := State.afterPresenceBody_eq_afterCells began
  have before : ((s.beginFrame .presence []).afterStart.cerr || (s.beginFrame .presence []).afterStart.lerr) =
      (s.cerr || s.lerr) := (Bool.or_assoc ..).trans (congrArg _ (Bool.or_self _))
  rw [before] at cells
  exact reaches_frame
    (t := { s.beginFrame .presence [] with
      rxb := e.receivedAt s.params 1 0, pres := !(s.cerr || s.lerr) && readsOne s.params (e.pairAt 0), seq.idx := 0 })
    hr (reaches_presenceBody hr) cells hr

/-- F_PRESENCE at the head of the plan: a frame that leaves PRES as well. -/
theorem reaches_fPresence {s e : State} (hr : Ready s) (h : AnswersAs s e) (rest : List Micro) :
    ∃ u, Reaches { s with plan := .op .fPresence :: rest } { u with plan := rest } ∧
      Framed { s with pres := !(s.cerr || s.lerr) && readsOne s.params (e.pairAt 0) } e u 11 (e.acksAt 2 && e.cleanAt 2)
        (frameSlots s.params (e.presenceSlots s.params)) ∧ u.buf = s.buf ∧ u.vbuf = s.vbuf := by
  have frame := reaches_presenceFrameAs (s := { s with plan := rest }) (e := e) hr h.same
  refine ⟨_, reaches_op hr.1 rfl rfl (exec_fPresence _) frame, framed_afterFrame
    (t := { s with plan := rest, rxb := e.receivedAt s.params 1 0,
                   pres := !(s.cerr || s.lerr) && readsOne s.params (e.pairAt 0), seq.idx := 0 })
    rfl rfl rfl rfl rfl rfl ?_, rfl, rfl⟩
  rw [← e.presence_errors, h.params]

/-- The state in which F_PRESENCE begins (R160, R162, R169). -/
def State.begunPresence (s : State) (len : Byte) (addr : Half) : State :=
  { s with op := 0#2, len := len, addr := addr, busy := true, tickPending := false, seq.top := .presence }.opened

/-- R162: a PRESENCE runs F_PRESENCE and completes with PRES, which is the first slave cell's: LinkReset has cleared the error
flags before. -/
theorem reaches_presenceCommand {s : State} {len : Byte} {addr : Half} (hr : Ready s) :
    ∃ v, Reaches { s with op := 0#2, len := len, addr := addr }.hostStart { v.complete (some v.pres) with plan := s.plan } ∧
      Took { s.begunPresence len addr with pres := readsOne s.params (s.pairAt 0) } s v 11
        (frameSlots s.params (s.presenceSlots s.params)) ∧
      v.callOk = s.callOk ∧ v.buf = s.buf ∧ v.vbuf = s.vbuf := by
  obtain ⟨u, frame, framed, buf, vbuf⟩ := reaches_fPresence (s := s.begunPresence len addr) (e := s) hr ⟨⟨rfl, rfl⟩, rfl⟩
    (.act (.lock false) :: .act .finishPresence :: s.plan)
  refine ⟨{ u with lock := false }, ?_, ?_, congrArg (·.2.1) framed.engine, buf, vbuf⟩
  · have opened := reaches_opened
      (s := { s with op := 0#2, len := len, addr := addr, busy := true, tickPending := false, seq.top := .presence }) hr
      (.op .fPresence :: .act (.lock false) :: .act .finishPresence :: s.plan)
    have ready : Ready u := Ready.of_kept (s := { s.begunPresence len addr with pres := _ }) hr framed.kept
    rw [State.hostStart_presence rfl]
    refine opened.trans (frame.trans (reaches_act ready.1 rfl rfl ?_))
    exact reaches_act ready.1 rfl rfl (Reaches.refl _)
  · have took := framed.toTook.withEngine false u.callOk u.seq.top
    exact ⟨took.kept, took.rest, took.answers, took.wire⟩

/-- Settles O33: a PRESENCE runs F_PRESENCE and completes with PRES (`reaches_presenceCommand`). -/
theorem presenceAnswersTheAddressAcknowledge : Obligations.PresenceAnswersTheAddressAcknowledge := by
  unfold Obligations.PresenceAnswersTheAddressAcknowledge
  intro s len addr hr hs hb
  obtain ⟨v, reaches, took, callOk, buf, vbuf⟩ := reaches_presenceCommand (len := len) (addr := addr) hr
  have pres : v.pres = readsOne s.params (s.pairAt 0) := congrArg State.pres took.kept
  refine completes_command rfl hb reaches rfl ⟨pres, ?_, ?_⟩
  · refine took.length_wire.trans ?_
    rw [State.length_presenceSlots hs]
    rfl
  · refine (took.complete_eq v.pres s.plan).trans ?_
    rw [callOk, buf, vbuf, ← took.answers.1, ← took.answers.2, ← pres]
    rfl

end Sys2Proof.Machine

/-! Verify and WRITE (R164, R167): the read-back and its comparison, an attempt of three frames, and the loop of attempts by
induction on those that are left. -/

namespace Sys2Proof.Machine

open Sys2Proof

/-! ### Verify -/

/-- What Verify leaves: the outcome `r` of its read-back, and what the comparison with BUF says (R167). -/
structure VerifyDone (s e u : State) (r : Attempts) (slots : List SlotRec) : Prop extends Took s e u r.cells slots where
  lock : u.lock = false
  seq : u.seq = { s.seq with
    top := .write, vatt := u.seq.vatt, frame := .none, fst := .idle, idx := u.seq.idx, cell := 0, ph := 0, wait := 0 }
  buf : u.buf = s.buf
  cerr : u.cerr = !r.ok
  bytes : ∀ i, i < s.n → u.vbuf.read i = r.bytes[i]?
  above : ∀ i, s.n ≤ i → u.vbuf.read i = s.vbuf.read i
  callOk : u.callOk = true ↔
    (∀ i, i < s.n → u.vbuf.read i = s.buf.read i) ∧ (s.params.verifyUsesReadStatus = true → r.ok = true)
  length : slots.length = r.slots

/-- The state in which the read-back of a Verify begins (R167, R170). -/
def State.begunVerify (s : State) : State := { s with seq.top := .verify, plan := .act .compare :: s.plan }

/-- The comparison of a read-back answers where both buffers hold the bytes (R167). -/
theorem zeroCompare_eq {v : State} (h : ∀ i, i < v.n → (v.vbuf.read i).isSome = true ∧ (v.buf.read i).isSome = true) :
    ∃ eq, (∀ ms, zeroCompare { v with plan := ms } = .next { v with
        callOk := if v.params.verifyUsesReadStatus then v.callOk && eq else eq, seq.top := .write, plan := ms }) ∧
      (eq = true ↔ ∀ i, i < v.n → v.vbuf.read i = v.buf.read i) := by
  obtain ⟨eq, he⟩ := Memory.sameBytes_answers h
  refine ⟨eq, fun ms => ?_, (Memory.sameBytes_ok he).2⟩
  simp only [zeroCompare, he]

/-- Verify, from its read-back on (R167). -/
theorem reaches_verify {s e : State} (hr : Ready s) (h : AnswersAs s e) (hs : s.params.sound = true) (hn : s.n ≤ 16)
    (hw : Written s s.n) :
    ∃ u slots, Reaches ({ s with seq.top := .verify }.push [.op (.readcore .vbuf), .act .compare]) { u with plan := s.plan } ∧
      VerifyDone s e u (readAttempts s.n 3 e) slots ∧ (e.readClean s.n = true → slots = s.readFrame e) := by
  obtain ⟨v, slots, loop, done, first⟩ := reaches_readcore .vbuf (s := s.begunVerify) (e := e) hr ⟨h.same, h.params⟩ hs hn
  have buf : v.buf = s.buf := (done.others .buf (by decide)).1
  have att : v.seq.att = s.seq.att := (done.others .buf (by decide)).2
  have n : v.n = s.n := State.n_of_kept done.kept
  have params : v.params = s.params := State.params_of_kept done.kept
  have bytes : ∀ i, i < s.n → v.vbuf.read i = (readAttempts s.n 3 e).bytes[i]? := done.bytes
  have both (i : Nat) (hi : i < v.n) : (v.vbuf.read i).isSome = true ∧ (v.buf.read i).isSome = true := by
    rw [n] at hi
    rw [bytes i hi, buf]
    exact ⟨readAttempts_isSome hi, hw i hi⟩
  obtain ⟨eq, compare, same⟩ := zeroCompare_eq both
  rw [n, buf] at same
  refine ⟨{ v with callOk := if v.params.verifyUsesReadStatus then v.callOk && eq else eq, seq.top := .write }, slots, ?_, ?_,
    first⟩
  · have ready : Ready v := Ready.of_kept (s := s.begunVerify.setReadCount .vbuf 0) hr done.kept
    refine reaches_op hr.1 rfl rfl rfl (loop.trans ?_)
    exact reaches_act ready.1 rfl (compare s.plan) (Reaches.refl _)
  · have took := done.toTook.withEngine v.lock (if v.params.verifyUsesReadStatus then v.callOk && eq else eq) .write
    refine ⟨⟨took.kept, took.rest, took.answers, took.wire⟩, done.lock, ?_, buf, done.cerr, bytes, done.above, ?_, done.length⟩
    · have pcnt : v.seq.pcnt = s.seq.pcnt := done.pcnt
      refine (congrArg (fun q : Seq => { q with top := .write }) done.rest.seq_eq).trans ?_
      dsimp only
      rw [att, pcnt]
    · have ok : v.callOk = (readAttempts s.n 3 e).ok := done.callOk
      dsimp only
      rw [params]
      cases s.params.verifyUsesReadStatus with
      | true => simp [ok, same, and_comm]
      | false => simp [same]

/-- VERIFY at the head of the plan. -/
theorem reaches_verifyAt {s e : State} (hr : Ready s) (h : AnswersAs s e) (hs : s.params.sound = true) (hn : s.n ≤ 16)
    (hw : Written s s.n) (rest : List Micro) :
    ∃ u slots, Reaches { s with plan := .op .verify :: rest } { u with plan := rest } ∧
      VerifyDone s e u (readAttempts s.n 3 e) slots ∧ (e.readClean s.n = true → slots = s.readFrame e) := by
  obtain ⟨u, slots, reaches, done, first⟩ := reaches_verify (s := { s with plan := rest }) (e := e) hr ⟨h.same, h.params⟩ hs hn hw
  exact ⟨u, slots, reaches_op hr.1 rfl rfl rfl reaches, ⟨⟨done.kept, done.rest, done.answers, done.wire⟩, done.lock, done.seq,
    done.buf, done.cerr, done.bytes, done.above, done.callOk, done.length⟩, first⟩

/-- Settles O32: VERIFY runs its read-back and compares (`reaches_verify`); a read-back that failed left zeros
(`readAttempts_failed`). -/
theorem verifyComparesTheReadBack : Obligations.VerifyComparesTheReadBack := by
  unfold Obligations.VerifyComparesTheReadBack
  intro s hr hs hn hw
  obtain ⟨u, slots, reaches, done, -⟩ := reaches_verify hr (e := s) ⟨⟨rfl, rfl⟩, rfl⟩ hs hn hw
  refine ⟨_, rfl, _, reaches, rfl, ?_, fun he i hi => ?_, done.above, ?_⟩
  · have succeeded : (u.cerr = false) = ((readAttempts s.n 3 s).ok = true) := by rw [done.cerr, Bool.not_eq_false']
    show u.callOk = true ↔ _ ∧ (_ → u.cerr = false)
    rw [succeeded]
    exact done.callOk
  · have failed : (readAttempts s.n 3 s).ok = false := by rw [← Bool.not_eq_true', ← done.cerr]; exact he
    obtain ⟨-, -, bytes, -⟩ := readAttempts_failed failed
    refine (done.bytes i hi).trans ?_
    rw [bytes, List.getElem?_replicate_of_lt hi]
  · have eq := State.eq_of_kept done.kept
    rw [done.buf, done.lock, done.rest.dir, done.rest.lvl, done.rest.tick] at eq
    refine (congrArg (fun v : State => { v with plan := s.plan }) eq).trans ?_
    dsimp only
    conv_lhs => rw [done.seq]

end Sys2Proof.Machine

/-! WRITE (R164): the three frames of an attempt, the loop of attempts by induction on those that are left, and the bound. -/

namespace Sys2Proof.Machine

open Sys2Proof

/-! ### An attempt -/

/-- What WRITE attempts left: BUF is not written, and VBUF below N only. -/
structure WriteTook (s e u : State) (cells : Nat) (slots : List SlotRec) : Prop extends Took s e u cells slots where
  buf : u.buf = s.buf
  above : ∀ i, s.n ≤ i → u.vbuf.read i = s.vbuf.read i

/-- WRITE attempts and more of them. -/
theorem WriteTook.trans {s e t u : State} {j k : Nat} {xs ys : List SlotRec} (h : WriteTook s e t j xs)
    (h' : WriteTook t (e.afterPairs j) u k ys) : WriteTook s e u (j + k) (xs ++ ys) where
  toTook := h.toTook.trans h'.toTook
  buf := h'.buf.trans h.buf
  above i hi := (h'.above i (by rwa [State.n_of_kept h.kept])).trans (h.above i hi)

/-- A pulse between two WRITE attempts (R168). -/
theorem WriteTook.pulse {s e : State} (h : SameAnswers s e) (hr : s.AtRest) :
    WriteTook s e s.afterPulse 0 (pulseTrace s.params) :=
  ⟨.pulse h hr, rfl, fun _ _ => rfl⟩

/-- The payload of a WRITE (R137). -/
def State.payload (s : State) : List Byte := (List.range s.n).map s.payloadByte

/-- The payload has N bytes. -/
theorem State.length_payload (s : State) : s.payload.length = s.n := by rw [State.payload, List.length_map, List.length_range]

/-- Where the host has written it, the payload is what BUF holds. -/
theorem State.getElem?_payload {s : State} (hw : Written s s.n) {i : Nat} (hi : i < s.n) : s.payload[i]? = s.buf.read i := by
  obtain ⟨v, hv⟩ := Option.isSome_iff_exists.mp (hw i hi)
  rw [State.payload, List.getElem?_map, List.getElem?_range hi, Option.map_some, State.payloadByte, hv]
  rfl

/-- A run that does not write BUF keeps the payload, and whether it was written. -/
theorem WriteTook.payload {s e u : State} {j : Nat} {xs : List SlotRec} (h : WriteTook s e u j xs) :
    u.payload = s.payload ∧ (Written s s.n → Written u u.n) := by
  have n := State.n_of_kept h.kept
  constructor
  · have byte : u.payloadByte = s.payloadByte := funext fun i => by rw [State.payloadByte, State.payloadByte, h.buf]
    rw [State.payload, State.payload, n, byte]
  · intro hw i hi
    rw [h.buf]
    exact hw i (n ▸ hi)

/-- The slots of F_WRITE depend on what a run keeps, and on BUF. -/
theorem State.writeSlots_of_kept {s u : State} (h : u.kept = s.kept) (hb : u.buf = s.buf) (e : State) (n : Nat) :
    u.writeSlots e n = s.writeSlots e n := by
  have addr : u.addr = s.addr := (congrArg State.addr h :)
  simp only [State.writeSlots, State.payloadByte, State.params_of_kept h, State.n_of_kept h, addr, hb]

/-- The slots of the three write frames of an attempt in `s`, the environment answering as `e` before it (R164). -/
def State.writeFrames (s e : State) : List SlotRec :=
  frameSlots s.params (e.headerTrace s.params 0x96#8 false) ++
    frameSlots s.params (s.writeSlots (e.afterPairs 2) s.n) ++
    frameSlots s.params ((e.afterPairs (6 + s.n)).pollSlots s.params (e.afterPairs (6 + s.n)).pollCount)

/-- The three write frames of an attempt (R164). -/
theorem reaches_writeFrames {s e : State} (hr : Ready s) (h : AnswersAs s e) (hw : Written s s.n) (rest : List Micro) :
    ∃ u, Reaches { s with plan := .op .fWren :: .op .fWrite :: .op .fPoll :: rest } { u with plan := rest } ∧
      Framed s e u (e.writeCells s.n) (e.writeClean s.n) (s.writeFrames e) ∧ u.buf = s.buf ∧ u.vbuf = s.vbuf := by
  obtain ⟨t, wren, wrenDone, tbuf, tvbuf⟩ := reaches_fWren hr h (.op .fWrite :: .op .fPoll :: rest)
  have tn := State.n_of_kept wrenDone.kept
  have tw : Written t t.n := by rw [tn]; intro i hi; rw [tbuf]; exact hw i hi
  obtain ⟨v, write, writeDone, vbuf, vvbuf⟩ := reaches_fWrite (hr.of_kept wrenDone.kept) (h.took wrenDone.toTook) tw
    (.op .fPoll :: rest)
  have both := wrenDone.trans writeDone
  obtain ⟨u, poll, pollDone, ubuf, uvbuf⟩ := reaches_fPoll (hr.of_kept both.kept) (h.took both.toTook) rest
  refine ⟨u, wren.trans (write.trans poll), ?_, ubuf.trans (vbuf.trans tbuf), uvbuf.trans (vvbuf.trans tvbuf)⟩
  have whole := both.trans pollDone
  have cells : 2 + (4 + s.n) = 6 + s.n := by omega
  rw [State.params_of_kept both.kept, State.params_of_kept wrenDone.kept, State.writeSlots_of_kept wrenDone.kept tbuf, tn,
    cells] at whole
  exact whole

/-- A WRITE attempt, up to its decision: it is counted, opened, and runs its three frames (R164). -/
theorem reaches_writeAttempt {s e : State} (hr : Ready s) (h : AnswersAs s e) (hw : Written s s.n) (hc : s.seq.att < 3)
    (rest : List Micro) :
    ∃ u, Reaches { s with plan := .act .writeAttempt :: rest } { u with plan := .act .writeDecide :: rest } ∧
      WriteTook s e u (e.writeCells s.n) (s.writeFrames e) ∧ u.seq.att = s.seq.att + 1 ∧ u.cerr = !e.writeClean s.n ∧
      u.vbuf = s.vbuf := by
  obtain ⟨u, frames, framed, buf, vbuf⟩ := reaches_writeFrames (s := { s with seq.att := s.seq.att + 1 }.opened) (e := e) hr
    ⟨h.same, h.params⟩ hw (.act (.lock false) :: .act .writeDecide :: rest)
  have opened := reaches_opened (s := { s with seq.att := s.seq.att + 1 }) hr
    (.op .fWren :: .op .fWrite :: .op .fPoll :: .act (.lock false) :: .act .writeDecide :: rest)
  have attempt : zeroWriteAttempt { s with plan := rest } = _ := if_pos hc
  have ready : Ready u := Ready.of_kept (s := { s with seq.att := s.seq.att + 1 }.opened) hr framed.kept
  have took := framed.toTook.withEngine false u.callOk u.seq.top
  refine ⟨{ u with lock := false }, ?_, ⟨⟨took.kept, took.rest, took.answers, took.wire⟩, buf, fun i _ => ?_⟩,
    congrArg (·.2.2.2.1) framed.engine, framed.cerr, vbuf⟩
  · refine reaches_act hr.1 rfl (congrArg Host.Outcome.next attempt) (opened.trans (frames.trans ?_))
    exact reaches_act ready.1 rfl rfl (Reaches.refl _)
  · exact congrArg (Memory.read · i) vbuf

/-! ### The loop of attempts -/

/-- What the attempts of a WRITE leave: their outcome `w`. -/
structure WriteDone (s e u : State) (w : Attempts) (slots : List SlotRec) : Prop extends WriteTook s e u w.cells slots where
  passed : w.ok = true → (∀ i, i < s.n → u.vbuf.read i = s.buf.read i) ∧ (s.params.verifyUsesReadStatus = true → u.cerr = false)
  length : slots.length = w.slots

/-- An attempt before a WRITE's last ones. -/
theorem WriteDone.after {s e t u : State} {j : Nat} {xs ys : List SlotRec} {w : Attempts} (h : WriteTook s e t j xs)
    (h' : WriteDone t (e.afterPairs j) u w ys) :
    WriteDone s e u (w.after j xs.length) (xs ++ ys) where
  toWriteTook := h.trans h'.toWriteTook
  passed hok := by
    have passed := h'.passed hok
    rwa [h.buf, State.n_of_kept h.kept, State.params_of_kept h.kept] at passed
  length := by rw [List.length_append, h'.length, Attempts.after_slots]

/-- A verify passes where the read-back's bytes are the payload, and its status is not asked for or is good (R167). -/
theorem VerifyDone.callOk_eq {s e u : State} {slots : List SlotRec} (h : VerifyDone s e u (readAttempts s.n 3 e) slots)
    (hw : Written s s.n) : u.callOk = verifyPasses s.params s.payload (readAttempts s.n 3 e) := by
  have same : (∀ i, i < s.n → u.vbuf.read i = s.buf.read i) ↔ (readAttempts s.n 3 e).bytes = s.payload := by
    constructor
    · intro eq
      refine List.ext_getElem? fun i => ?_
      obtain hi | hi := Nat.lt_or_ge i s.n
      · rw [← h.bytes i hi, eq i hi, State.getElem?_payload hw hi]
      · rw [List.getElem?_eq_none (by rwa [readAttempts_length]), List.getElem?_eq_none (by rwa [State.length_payload])]
    · intro eq i hi
      rw [h.bytes i hi, eq, State.getElem?_payload hw hi]
  rw [Bool.eq_iff_iff, h.callOk, same, verifyPasses, Bool.and_eq_true, beq_iff_eq]
  cases s.params.verifyUsesReadStatus <;> simp

/-- The read-back of the WRITE attempt of `n` bytes that begins now (R167). -/
def State.readBack (s : State) (n : Nat) : Attempts := readAttempts n 3 (s.afterPairs (s.writeCells n))

/-- The slots of the three write frames of the attempt of `n` bytes that begins now (R141). -/
def State.writeFrameSlots (s : State) (n : Nat) : Nat :=
  wrenSlots s.params + transferSlots s.params n + Machine.pollSlots s.params (s.afterPairs (6 + n)).pollCount

/-- A WRITE attempt whose verify passes ends them. -/
theorem writeAttempts_passed {vs : List Byte} {k : Nat} {s : State} (hc : s.writeClean vs.length = true)
    (hv : verifyPasses s.params vs (s.readBack vs.length) = true) :
    writeAttempts vs (k + 1) s = ⟨true, 1, s.writeCells vs.length + (s.readBack vs.length).cells,
      s.writeFrameSlots vs.length + (s.readBack vs.length).slots, (s.readBack vs.length).bytes⟩ :=
  (if_pos hc).trans (if_pos hv)

/-- A WRITE attempt whose verify fails is followed by a pulse and the others. -/
theorem writeAttempts_mismatched {vs : List Byte} {k : Nat} {s : State} (hc : s.writeClean vs.length = true)
    (hv : verifyPasses s.params vs (s.readBack vs.length) = false) :
    writeAttempts vs (k + 1) s =
      (writeAttempts vs k (s.afterPairs (s.writeCells vs.length + (s.readBack vs.length).cells))).after
        (s.writeCells vs.length + (s.readBack vs.length).cells)
        (s.writeFrameSlots vs.length + (s.readBack vs.length).slots + pulseSlots s.params) :=
  (if_pos hc).trans (if_neg (Bool.eq_false_iff.mp hv))

/-- A WRITE attempt whose frames recorded an error is followed by a pulse and the others. -/
theorem writeAttempts_unclean {vs : List Byte} {k : Nat} {s : State} (hc : s.writeClean vs.length = false) :
    writeAttempts vs (k + 1) s = (writeAttempts vs k (s.afterPairs (s.writeCells vs.length))).after (s.writeCells vs.length)
      (s.writeFrameSlots vs.length + pulseSlots s.params) :=
  if_neg (Bool.eq_false_iff.mp hc)

/-- R141: the write frames of an attempt take their slots. -/
theorem State.length_writeFrames {s e : State} (h : AnswersAs s e) (hs : s.params.sound = true) :
    (s.writeFrames e).length = e.writeFrameSlots s.n := by
  simp only [State.writeFrames, List.length_append, length_frameSlots hs, State.length_headerTrace, State.length_writeSlots,
    State.length_pollSlots, startSlots, State.writeFrameSlots, wrenSlots, transferSlots, Machine.pollSlots, h.params]
  omega

/-- A WRITE attempt whose frames recorded no error, up to its second decision: the verify follows the frames (R164). -/
theorem reaches_verifiedAttempt {s e : State} (hr : Ready s) (h : AnswersAs s e) (hs : s.params.sound = true) (hn : s.n ≤ 16)
    (hw : Written s s.n) (hc : s.seq.att < 3) (clean : e.writeClean s.n = true) (rest : List Micro) :
    ∃ v slots, Reaches { s with plan := .act .writeAttempt :: rest } { v with plan := .act .verifyDecide :: rest } ∧
      WriteTook s e v (e.writeCells s.n + (e.readBack s.n).cells) slots ∧ v.seq.att = s.seq.att + 1 ∧
      slots.length = e.writeFrameSlots s.n + (e.readBack s.n).slots ∧
      v.callOk = verifyPasses e.params s.payload (e.readBack s.n) ∧
      (v.callOk = true → (∀ i, i < s.n → v.vbuf.read i = s.buf.read i) ∧
        (s.params.verifyUsesReadStatus = true → v.cerr = false)) ∧
      ((e.afterPairs (e.writeCells s.n)).readClean s.n = true →
        slots = s.writeFrames e ++ s.readFrame (e.afterPairs (e.writeCells s.n))) := by
  obtain ⟨t, attempt, took, att, cerr, -⟩ := reaches_writeAttempt hr h hw hc rest
  rw [clean] at cerr
  have decide : zeroWriteDecide { t with plan := rest } = { t with plan := rest }.push [.op .verify, .act .verifyDecide] :=
    if_neg (Bool.eq_false_iff.mp cerr)
  have ready := hr.of_kept took.kept
  have n := State.n_of_kept took.kept
  have params := State.params_of_kept took.kept
  obtain ⟨payload, written⟩ := took.payload
  obtain ⟨v, slots, verify, verified, first⟩ := reaches_verifyAt ready (h.took took.toTook) (by rwa [params]) (n.le.trans hn)
    (written hw) (.act .verifyDecide :: rest)
  have passes := verified.callOk_eq (written hw)
  rw [n] at passes verified first
  refine ⟨v, s.writeFrames e ++ slots, attempt.trans (reaches_act ready.1 rfl (congrArg Host.Outcome.next decide) verify),
    took.trans ⟨verified.toTook, verified.buf, verified.above⟩, (congrArg Seq.att verified.seq).trans att, ?_, ?_, fun hv => ?_,
    fun readClean => ?_⟩
  · rw [List.length_append, State.length_writeFrames h hs, verified.length]
    rfl
  · rw [passes, payload, params, h.params]
    rfl
  · obtain ⟨same, status⟩ := verified.callOk.mp hv
    rw [n, took.buf] at same
    rw [params] at status
    exact ⟨same, fun uses => by rw [verified.cerr, status uses]; rfl⟩
  · rw [first readClean, State.readFrame_of_kept took.kept]

/-- What the loop of WRITE does from `s` on, with `k` attempts left and the environment answering as `e` (R164, R168). -/
def WriteLoops (k : Nat) (s e : State) (rest : List Micro) : Prop :=
  ∃ u slots, Reaches { s with plan := .act .writeAttempt :: rest }
      { u.complete (some (writeAttempts s.payload k e).ok) with plan := rest } ∧
    WriteDone s e u (writeAttempts s.payload k e) slots ∧
    (k ≠ 0 → e.writeClean s.n = true → (e.afterPairs (e.writeCells s.n)).readClean s.n = true →
      (e.afterPairs (e.writeCells s.n)).readBytes s.n = s.payload →
      slots = s.writeFrames e ++ s.readFrame (e.afterPairs (e.writeCells s.n)))

/-- An attempt that failed is followed by a pulse and the loop. -/
theorem WriteLoops.retry {k : Nat} {s e t : State} {j : Nat} {xs : List SlotRec} {rest : List Micro} (hr : Ready s)
    (took : WriteTook s e t j xs) (loops : WriteLoops k t.afterPulse (e.afterPairs j) rest) :
    ∃ u slots, Reaches { t with plan := .op .spulse :: .act .writeAttempt :: rest }
        { u.complete (some (writeAttempts s.payload k (e.afterPairs j)).ok) with plan := rest } ∧
      WriteDone s e u ((writeAttempts s.payload k (e.afterPairs j)).after j (xs.length + pulseSlots s.params)) slots := by
  obtain ⟨u, slots, loop, done, -⟩ := loops
  have whole := took.trans (.pulse took.answers took.rest)
  have length : (xs ++ pulseTrace t.params).length = xs.length + pulseSlots s.params := by
    rw [List.length_append, length_pulseTrace, State.params_of_kept took.kept]
  have after := done.after whole
  rw [length] at after
  rw [whole.payload.1] at loop after
  exact ⟨u, _, (reaches_spulse (hr.of_kept took.kept) _).trans loop, after⟩

/-- R164, R168: the loop of WRITE runs to its end. -/
theorem reaches_writeLoop (k : Nat) {s e : State} (hr : Ready s) (h : AnswersAs s e) (hs : s.params.sound = true)
    (hn : s.n ≤ 16) (hw : Written s s.n) (hc : s.seq.att + k = 3) (hz : k = 0 → s.AtRest) (rest : List Micro) :
    WriteLoops k s e rest := by
  induction k generalizing s e with
  | zero =>
    have done : zeroWriteAttempt { s with plan := rest } = { s with plan := rest }.complete (some false) :=
      if_neg (Nat.not_lt_of_le hc.ge)
    exact ⟨s, [], reaches_act hr.1 rfl (congrArg Host.Outcome.next done) (Reaches.refl _),
      ⟨⟨⟨rfl, hz rfl, h.same, rfl⟩, rfl, fun _ _ => rfl⟩, fun hok => absurd hok Bool.false_ne_true, rfl⟩,
      fun h => absurd rfl h⟩
  | succ k ih =>
    have loops {t : State} {j : Nat} {xs : List SlotRec} (took : WriteTook s e t j xs) (att : t.seq.att = s.seq.att + 1) :
        WriteLoops k t.afterPulse (e.afterPairs j) rest := by
      have whole := took.trans (.pulse took.answers took.rest)
      have count : t.afterPulse.seq.att = s.seq.att + 1 := att
      exact ih (hr.of_kept whole.kept) (h.took whole.toTook) (by rwa [State.params_of_kept whole.kept])
        (by rwa [State.n_of_kept whole.kept]) (whole.payload.2 hw) (by omega) fun _ => whole.rest
    have n := s.length_payload
    cases clean : e.writeClean s.n with
    | false =>
      obtain ⟨t, attempt, took, att, cerr, -⟩ := reaches_writeAttempt hr h hw (by omega) rest
      rw [clean] at cerr
      have decide : zeroWriteDecide { t with plan := rest } = { t with plan := rest }.recover .writeAttempt := if_pos cerr
      obtain ⟨u, slots, loop, done⟩ := (loops took att).retry hr took
      rw [State.length_writeFrames h hs] at done
      rw [WriteLoops, writeAttempts_unclean (by rwa [n]), n, h.params]
      exact ⟨u, slots, attempt.trans (reaches_act (hr.of_kept took.kept).1 rfl (congrArg Host.Outcome.next decide) loop), done,
        fun _ hc => absurd (clean.symm.trans hc) Bool.false_ne_true⟩
    | true =>
      obtain ⟨v, slots, attempt, took, att, length, callOk, passed, first⟩ :=
        reaches_verifiedAttempt hr h hs hn hw (by omega) clean rest
      have ready := hr.of_kept took.kept
      cases hv : v.callOk with
      | true =>
        have complete : zeroVerifyDecide { v with plan := rest } = { v with plan := rest }.complete (some true) := if_pos hv
        rw [WriteLoops, writeAttempts_passed (by rwa [n]) (by rw [n, ← callOk, hv]), n]
        exact ⟨v, slots, attempt.trans (reaches_act ready.1 rfl (congrArg Host.Outcome.next complete) (Reaches.refl _)),
          ⟨took, fun _ => passed hv, length⟩, fun _ _ readClean _ => first readClean⟩
      | false =>
        have decide : zeroVerifyDecide { v with plan := rest } = { v with plan := rest }.recover .writeAttempt :=
          if_neg (Bool.eq_false_iff.mp hv)
        obtain ⟨u, slots, loop, done⟩ := (loops took att).retry hr took
        rw [length] at done
        rw [hv] at callOk
        rw [WriteLoops, writeAttempts_mismatched (by rwa [n]) (by rw [n, ← callOk]), n, h.params]
        refine ⟨u, slots, attempt.trans (reaches_act ready.1 rfl (congrArg Host.Outcome.next decide) loop), done,
          fun _ _ readClean bytes => ?_⟩
        rw [State.readBack, readAttempts_clean readClean, verifyPasses, bytes, beq_self_eq_true] at callOk
        exact absurd callOk Bool.false_ne_true

/-! ### The bound (R171) -/

/-- At most 120 status bytes are read (R138). -/
theorem State.pollCount_le (s : State) : s.pollCount ≤ 120 := by
  rw [State.pollCount]
  exact Nat.succ_le_succ (List.findIdx_le_length.trans (List.length_range).le)

/-- READ attempts stay within the slots of as many that fail. -/
theorem readAttempts_slots_le (n k : Nat) (s : State) :
    (readAttempts n k s).slots ≤ k * (transferSlots s.params n + pulseSlots s.params) := by
  cases h : (readAttempts n k s).ok with
  | false => exact (readAttempts_failed h).2.2.2.le
  | true =>
    obtain ⟨a, ha, -, -, -, -, slots⟩ := readAttempts_succeeded h
    rw [slots, Nat.mul_add]
    exact Nat.add_le_add (Nat.mul_le_mul_right _ ha) (Nat.mul_le_mul_right _ ha.le)

/-- The slots of a WRITE attempt that fails with every frame as long as it can be. -/
def attemptSlots (p : Config.Params) (n : Nat) : Nat :=
  wrenSlots p + transferSlots p n + pollSlots p 120 + 3 * (transferSlots p n + pulseSlots p) + pulseSlots p

/-- The three frames of a WRITE attempt, with the read-back and a pulse, stay within its bound. -/
theorem State.writeFrameSlots_le (s : State) (n : Nat) :
    s.writeFrameSlots n + (s.readBack n).slots + pulseSlots s.params ≤ attemptSlots s.params n := by
  have back := readAttempts_slots_le n 3 (s.afterPairs (s.writeCells n))
  have polls := (s.afterPairs (6 + n)).pollCount_le
  rw [s.afterPairs_params] at back
  rw [State.writeFrameSlots, attemptSlots, State.readBack, Machine.pollSlots, Machine.pollSlots]
  omega

/-- WRITE attempts stay within the slots of as many that fail, and all are made where none succeeds. -/
theorem writeAttempts_bounds (vs : List Byte) (k : Nat) (s : State) :
    (writeAttempts vs k s).slots ≤ k * attemptSlots s.params vs.length ∧
      ((writeAttempts vs k s).ok = false → (writeAttempts vs k s).tries = k) := by
  have bound := s.writeFrameSlots_le vs.length
  induction k generalizing s with
  | zero => exact ⟨Nat.zero_le _, fun _ => rfl⟩
  | succ k ih =>
    rw [Nat.succ_mul]
    cases hc : s.writeClean vs.length with
    | false =>
      obtain ⟨slots, tries⟩ := ih (s.afterPairs (s.writeCells vs.length)) (State.writeFrameSlots_le ..)
      rw [s.afterPairs_params] at slots
      rw [writeAttempts_unclean hc]
      exact ⟨by rw [Attempts.after_slots]; omega, fun h => congrArg (· + 1) (tries h)⟩
    | true =>
      cases hv : verifyPasses s.params vs (s.readBack vs.length) with
      | true =>
        rw [writeAttempts_passed hc hv]
        exact ⟨by dsimp only; omega, fun h => absurd h (Bool.eq_false_iff.mp · rfl)⟩
      | false =>
        obtain ⟨slots, tries⟩ := ih (s.afterPairs (s.writeCells vs.length + (s.readBack vs.length).cells))
          (State.writeFrameSlots_le ..)
        rw [s.afterPairs_params] at slots
        rw [writeAttempts_mismatched hc hv]
        exact ⟨by rw [Attempts.after_slots]; omega, fun h => congrArg (· + 1) (tries h)⟩

/-! ### The host operation -/

/-- The state in which a WRITE's loop of attempts begins (R160, R164). -/
def State.begunWrite (s : State) (len : Byte) (addr : Half) : State :=
  { s with op := 2#2, len := len, addr := addr, busy := true, tickPending := false, n := clampLen len, seq.top := .write
           seq.att := 0 }

/-- R164: a WRITE of at least one byte runs its attempts and completes with their outcome. -/
theorem reaches_writeCommand {s : State} {len : Byte} {addr : Half} (hr : Ready s) (hs : s.params.sound = true)
    (hl : len ≠ 0#8) (hw : Written s (clampLen len)) :
    ∃ v slots, Reaches { s with op := 2#2, len := len, addr := addr }.hostStart
        { v.complete (some (writeAttempts (s.begunWrite len addr).payload 3 s).ok) with plan := s.plan } ∧
      WriteDone (s.begunWrite len addr) s v (writeAttempts (s.begunWrite len addr).payload 3 s) slots ∧
      (s.writeClean (clampLen len) = true → (s.afterPairs (s.writeCells (clampLen len))).readClean (clampLen len) = true →
        (s.afterPairs (s.writeCells (clampLen len))).readBytes (clampLen len) = (s.begunWrite len addr).payload →
        slots = (s.begunWrite len addr).writeFrames s ++
          (s.begunWrite len addr).readFrame (s.afterPairs (s.writeCells (clampLen len)))) := by
  obtain ⟨v, slots, loop, done, first⟩ := reaches_writeLoop 3 (s := s.begunWrite len addr) (e := s) hr ⟨⟨rfl, rfl⟩, rfl⟩ hs
    (Nat.min_le_right ..) hw rfl (fun h => by cases h) s.plan
  refine ⟨v, slots, ?_, done, first (by decide)⟩
  rw [State.hostStart_write rfl hl]
  exact loop

/-- Settles O36: a WRITE runs its loop of attempts (`reaches_writeCommand`), whose outcome is `writeAttempts`'s, within its bound
(`writeAttempts_bounds`). -/
theorem writeReportsOnlyAVerifiedWrite : Obligations.WriteReportsOnlyAVerifiedWrite := by
  unfold Obligations.WriteReportsOnlyAVerifiedWrite
  intro s len addr hr hs hb hl n w hw
  obtain ⟨v, slots, reaches, done, -⟩ := reaches_writeCommand (addr := addr) hr hs hl hw
  obtain ⟨bound, tries⟩ := writeAttempts_bounds (s.begunWrite len addr).payload 3 s
  have wire := done.length_wire
  rw [done.length] at wire
  rw [State.length_payload] at bound
  refine completes_command rfl hb reaches rfl ⟨rfl, tries, done.answers.1, done.answers.2, wire, done.passed, done.above, ?_, ?_⟩
  · exact wire.le.trans (Nat.add_le_add_left bound _)
  · refine (done.complete_eq _ s.plan).trans ?_
    rw [done.buf]
    rfl

end Sys2Proof.Machine

/-! A device that answers (R42, R62): the samples to come as the pairs of acknowledging slave cells and of the bytes they carry,
and what READ and WRITE make of them (R163, R164). -/

namespace Sys2Proof.Machine

open Sys2Proof

/-! ### Samples presented as pairs -/

/-- The samples of received cells with these pairs. -/
def levelsOf (xs : List (Level × Level)) : List Level := xs.flatMap fun x => [x.1, x.2]

/-- A received cell takes two of the samples listed. -/
theorem State.answered_cons {s : State} {l : Level} {ls : List Level} (h : s.samples = l :: ls) :
    s.lineLevel = l ∧ s.answered = { s with samples := ls } := by
  constructor
  · rw [State.lineLevel, h]
  · unfold State.answered
    rw [h]

/-- Listed samples are the pairs of the received cells to come, and the rest is what follows them. -/
theorem State.presented {xs : List (Level × Level)} {s : State} {ls : List Level} (h : s.samples = levelsOf xs ++ ls) :
    s.nextPairs xs.length = xs ∧ (s.afterPairs xs.length).samples = ls ∧ (s.afterPairs xs.length).free = s.free := by
  induction xs generalizing s with
  | nil => exact ⟨rfl, h, rfl⟩
  | cons x xs ih =>
    obtain ⟨first, once⟩ := State.answered_cons (ls := x.2 :: (levelsOf xs ++ ls)) h
    obtain ⟨second, twice⟩ := State.answered_cons (s := s.answered) (l := x.2) (ls := levelsOf xs ++ ls) (by rw [once])
    obtain ⟨pairs, rest, free⟩ := ih (s := s.answered.answered) (by rw [twice])
    refine ⟨?_, rest, free.trans (by rw [twice, once])⟩
    rw [List.length_cons, State.nextPairs, pairs, State.nextPair, first, second]

/-- The pair with which a bit is read (R62). -/
def bitPair (p : Config.Params) (b : Bit) : Level × Level := if b then p.rxOnePair else (!p.rxOnePair.1, !p.rxOnePair.2)

/-- A bit is read from its pair. -/
theorem readsOne_bitPair (p : Config.Params) (b : Bit) : readsOne p (bitPair p b) = b := by
  cases b with
  | true => exact beq_self_eq_true _
  | false => exact readsOne_zeroPair p

/-- A bit's pair is valid. -/
theorem readsInvalid_bitPair (p : Config.Params) (b : Bit) : readsInvalid p (bitPair p b) = false := by
  cases b with
  | true => exact readsInvalid_rxOnePair p
  | false => exact readsInvalid_zeroPair p

/-- The pairs of an acknowledged received byte frame that carries `v`. -/
def cellsOf (p : Config.Params) (v : Byte) : List (Level × Level) := pairsOf p v ++ [p.rxOnePair]

/-- The samples of a byte frame are its pairs'. -/
theorem answersByte_eq (p : Config.Params) (v : Byte) : answersByte p v = levelsOf (cellsOf p v) := by
  have bits : (bitsOf v).flatMap (pairFor p) = levelsOf (pairsOf p v) := by
    rw [levelsOf, pairsOf, List.flatMap_map]
    exact List.flatMap_congr fun b _ => by cases b <;> rfl
  rw [answersByte, bits, cellsOf, levelsOf, levelsOf, List.flatMap_append]
  rfl

/-- The samples of acknowledges are their pairs'. -/
theorem answersAcks_eq (p : Config.Params) (k : Nat) : answersAcks p k = levelsOf (List.replicate k p.rxOnePair) := by
  induction k with
  | zero => rfl
  | succ k ih => rw [answersAcks, ih]; rfl

/-! ### Acknowledges -/

/-- The pairs of the next cells, one by one. -/
theorem State.getElem?_nextPairs (s : State) {k i : Nat} (h : i < k) : (s.nextPairs k)[i]? = some (s.pairAt i) := by
  obtain ⟨j, rfl⟩ := Nat.exists_eq_add_of_lt h
  rw [Nat.add_assoc, s.nextPairs_add, List.getElem?_append_right (by rw [State.length_nextPairs]), State.length_nextPairs,
    Nat.sub_self]
  rfl

/-- Slave cells that acknowledge. -/
structure Acknowledged (s : State) (k : Nat) : Prop where
  pairs : ∀ i, i < k → s.pairAt i = s.params.rxOnePair
  acks : s.acksAt k = true

/-- Samples that acknowledge `k` slave cells. -/
theorem acknowledged_presented {s : State} {k : Nat} {ls : List Level} (h : s.samples = answersAcks s.params k ++ ls) :
    Acknowledged s k ∧ (s.afterPairs k).samples = ls ∧ (s.afterPairs k).free = s.free := by
  rw [answersAcks_eq] at h
  obtain ⟨pairs, rest⟩ := State.presented h
  rw [List.length_replicate] at pairs rest
  refine ⟨⟨fun i hi => Option.some.inj ?_, ?_⟩, rest⟩
  · rw [← s.getElem?_nextPairs hi, pairs, List.getElem?_replicate_of_lt hi]
  · rw [State.acksAt, pairs, List.all_replicate]
    simp [readsOne]

/-! ### Bytes -/

/-- A received byte frame, after `k` received cells, that carries `v` and is acknowledged. -/
structure Carries (s : State) (k : Nat) (v : Byte) : Prop where
  pairs : (s.afterPairs k).nextPairs 8 = pairsOf s.params v
  slave : s.pairAt (k + 8) = s.params.rxOnePair

/-- Such a byte frame is clean. -/
theorem Carries.cleanAt {s : State} {k : Nat} {v : Byte} (h : Carries s k v) : s.cleanAt k = true := by
  have valid : (pairsOf s.params v).any (readsInvalid s.params) = false := by
    rw [List.any_eq_false]
    intro x hx
    obtain ⟨b, -, rfl⟩ := List.mem_map.mp hx
    exact Bool.eq_false_iff.mp (readsInvalid_bitPair s.params b)
  rw [State.cleanAt, h.pairs, h.slave, valid, readsOne, beq_self_eq_true]
  rfl

/-- Such a byte frame reads its byte. -/
theorem Carries.byteAt {s : State} {k : Nat} {v : Byte} (h : Carries s k v) : s.byteAt k = v := by
  rw [State.byteAt, h.pairs]
  exact byteOfPairs_bits (readsOne_bitPair s.params) v

/-- Samples that present the bytes `vs`. -/
theorem carries_presented {vs : List Byte} {s : State} {k : Nat} {ls : List Level}
    (h : (s.afterPairs k).samples = vs.flatMap (answersByte s.params) ++ ls) :
    (∀ i (hi : i < vs.length), Carries s (k + 9 * i) vs[i]) ∧ (s.afterPairs (k + 9 * vs.length)).samples = ls ∧
      (s.afterPairs (k + 9 * vs.length)).free = (s.afterPairs k).free := by
  induction vs generalizing k with
  | nil => exact ⟨fun i hi => absurd hi (Nat.not_lt_zero i), h, rfl⟩
  | cons v vs ih =>
    rw [List.flatMap_cons, List.append_assoc, answersByte_eq] at h
    obtain ⟨pairs, rest, free⟩ := State.presented h
    have nine : (cellsOf s.params v).length = 9 := rfl
    rw [nine, ← s.afterPairs_add] at rest free
    rw [nine] at pairs
    obtain ⟨bytes, last, lastFree⟩ := ih rest
    have cells : k + 9 + 9 * vs.length = k + 9 * (vs.length + 1) := by omega
    rw [cells] at last lastFree
    refine ⟨fun i hi => ?_, last, lastFree.trans free⟩
    cases i with
    | zero =>
      rw [State.nextPairs_succ] at pairs
      obtain ⟨data, slave⟩ := List.append_inj pairs rfl
      exact ⟨data, s.pairAt_afterPairs k 8 ▸ List.singleton_inj.mp slave⟩
    | succ i =>
      have cell : k + 9 + 9 * i = k + 9 * (i + 1) := by omega
      exact cell ▸ bytes i (Nat.lt_of_succ_lt_succ hi)

/-! ### The slots of acknowledged frames -/

/-- The payload of a frame, byte by byte (R77). -/
theorem payloadTrace_eq (one : Byte → Bool → List SlotRec) (vs : List Byte) :
    payloadTrace one vs = (List.range vs.length).flatMap fun i => one (vs[i]?.getD 0#8) (payloadMak i vs.length) := by
  induction vs with
  | nil => rfl
  | cons v vs ih =>
    have later (i : Nat) : payloadMak (i + 1) (vs.length + 1) = payloadMak i vs.length := by simp [payloadMak]
    rw [List.length_cons, List.range_succ_eq_map, List.flatMap_cons, List.flatMap_map]
    simp only [later]
    cases vs with
    | nil => simp [payloadTrace, payloadMak]
    | cons w vs =>
      rw [payloadTrace, ih]
      rfl

/-- A list of bytes, byte by byte. -/
theorem flatMap_eq_range (one : Byte → List SlotRec) (vs : List Byte) :
    vs.flatMap one = (List.range vs.length).flatMap fun i => one (vs[i]?.getD 0#8) := by
  induction vs with
  | nil => rfl
  | cons v vs ih =>
    rw [List.length_cons, List.range_succ_eq_map, List.flatMap_cons, List.flatMap_cons, List.flatMap_map, ih]
    rfl

/-- The header of an acknowledged frame (R135). -/
theorem Acknowledged.headerTrace {s : State} {k : Nat} (h : Acknowledged s k) (hk : 2 ≤ k) (c : Byte) (mc : Bool) :
    s.headerTrace s.params c mc = sentByte s.params 0xA0#8 true ++ sentByte s.params c mc := by
  rw [State.headerTrace, h.pairs 0 (by omega), h.pairs 1 (by omega)]
  rfl

/-- The header with the address of an acknowledged frame. -/
theorem Acknowledged.addressedTrace {s : State} {k : Nat} (h : Acknowledged s k) (hk : 4 ≤ k) (addr : Half) (c : Byte) :
    s.addressedTrace s.params addr c =
      sentByte s.params 0xA0#8 true ++ sentByte s.params c true ++ addressTrace s.params addr := by
  rw [State.addressedTrace, h.headerTrace (by omega), h.pairs 2 (by omega), h.pairs 3 (by omega), List.append_assoc]
  rfl

/-- A byte frame that carries `v`, on the wire. -/
theorem Carries.trace {s : State} {k : Nat} {v : Byte} (h : Carries s k v) (mak : Bool) :
    rxByteTrace ((s.afterPairs k).nextPairs 8) (makBitOf s.params mak) (s.pairAt (k + 8)) = receivedByte s.params v mak := by
  rw [h.pairs, h.slave]
  rfl

/-! ### F_READ of what is presented -/

/-- Samples that answer a READ frame with the payload `vs`: the frame is clean and receives `vs`. -/
theorem read_presented {s : State} {vs : List Byte} {ls : List Level} (h : s.samples = answersRead s.params vs ++ ls) :
    s.readClean vs.length = true ∧ s.readBytes vs.length = vs ∧
      (∀ addr, frameSlots s.params (s.readSlots s.params addr vs.length) = readTrace s.params addr vs) ∧
      (s.afterPairs (4 + 9 * vs.length)).samples = ls ∧ (s.afterPairs (4 + 9 * vs.length)).free = s.free := by
  have four : answersRead s.params vs = answersAcks s.params 4 ++ vs.flatMap (answersByte s.params) := by
    simp [answersRead, answersAcks]
  rw [four, List.append_assoc] at h
  obtain ⟨acks, payload, free⟩ := acknowledged_presented h
  obtain ⟨bytes, rest, restFree⟩ := carries_presented payload
  refine ⟨?_, ?_, fun addr => ?_, rest, restFree.trans free⟩
  · rw [State.readClean, acks.acks, Bool.true_and, List.all_eq_true]
    exact fun i hi => (bytes i (List.mem_range.mp hi)).cleanAt
  · refine List.ext_getElem (by rw [State.readBytes, List.length_map, List.length_range]) fun i _ hi => ?_
    simp only [State.readBytes, List.getElem_map, List.getElem_range]
    exact (bytes i hi).byteAt
  · have received : ((List.range vs.length).flatMap fun i => rxByteTrace ((s.afterPairs (4 + 9 * i)).nextPairs 8)
        (makBitOf s.params (payloadMak i vs.length)) (s.pairAt (4 + 9 * i + 8))) = payloadTrace (receivedByte s.params) vs := by
      rw [payloadTrace_eq]
      refine List.flatMap_congr fun i hi => ?_
      have hi := List.mem_range.mp hi
      rw [(bytes i hi).trace, List.getElem?_eq_getElem hi]
      rfl
    rw [frameSlots, State.readSlots, received, acks.addressedTrace (by decide), readTrace, frameTrace]
    simp only [List.append_assoc]

/-- Settles O35: the samples make the READ frame clean (`read_presented`), so that ReadCore takes one attempt
(`readAttempts_clean`) and leaves the bytes presented. -/
theorem readReturnsWhatTheLinePresents : Obligations.ReadReturnsWhatTheLinePresents := by
  unfold Obligations.ReadReturnsWhatTheLinePresents
  intro s len addr vs ls hr hs hb hl hv h
  obtain ⟨clean, bytes, -, rest, free⟩ := read_presented h
  obtain ⟨v, slots, reaches, done, -⟩ := reaches_readCommand (addr := addr) hr hs hl
  have n : vs.length = clampLen len := hv
  have once : readAttempts (clampLen len) 3 s = ⟨true, 1, 4 + 9 * vs.length, transferSlots s.params vs.length, vs⟩ := by
    rw [← n, readAttempts_clean clean, bytes]
  rw [once] at done
  refine completes_command rfl hb reaches rfl ⟨done.callOk, fun i hi => done.bytes i (hi.trans_eq n), done.answers.1.trans rest,
    done.answers.2.trans free, rfl, ?_⟩
  exact done.length_wire.trans (by rw [done.length]; rfl)

/-! ### The write frames of what is presented -/

/-- Samples that present status bytes of which the last is the first with WIP clear: F_POLL reads them all, cleanly. -/
theorem poll_presented {s : State} {sts : List Byte} {st : Byte} {ls : List Level}
    (h : s.samples = answersAcks s.params 2 ++ (sts ++ [st]).flatMap (answersByte s.params) ++ ls) (hl : sts.length < 120)
    (busy : ∀ x, x ∈ sts → x &&& s.params.wipMask ≠ 0#8) (ready : st &&& s.params.wipMask = 0#8) :
    s.pollCount = sts.length + 1 ∧ s.pollClean = true ∧
      frameSlots s.params (s.pollSlots s.params (sts.length + 1)) = pollTrace s.params (sts ++ [st]) ∧
      (s.afterPairs (2 + 9 * (sts.length + 1))).samples = ls ∧
      (s.afterPairs (2 + 9 * (sts.length + 1))).free = s.free := by
  rw [List.append_assoc] at h
  obtain ⟨acks, payload, free⟩ := acknowledged_presented h
  obtain ⟨bytes, rest, restFree⟩ := carries_presented payload
  have length : (sts ++ [st]).length = sts.length + 1 := List.length_append
  rw [length] at rest restFree
  have last : s.byteAt (2 + 9 * sts.length) = st := by
    rw [(bytes sts.length (by rw [length]; exact Nat.lt_succ_self _)).byteAt]
    exact List.getElem_concat_length rfl _
  have count : s.pollCount = sts.length + 1 := by
    refine (State.pollsTo.eq_pollCount ⟨Nat.succ_pos _, hl, fun i _ hi => ?_, .inl ?_⟩).symm
    · have below : i < sts.length := Nat.lt_of_succ_lt_succ hi
      have byte : s.byteAt (2 + 9 * i) = sts[i] := by
        rw [(bytes i (by omega)).byteAt, List.getElem_append_left below]
      exact (congrArg (wipClear s.params) byte).trans (beq_eq_false_iff_ne.mpr (busy _ (List.getElem_mem below)))
    · exact (congrArg (wipClear s.params) last).trans (beq_iff_eq.mpr ready)
  refine ⟨count, ?_, ?_, rest, restFree.trans free⟩
  · rw [State.pollClean, count, acks.acks, Nat.add_sub_cancel, last, ready, Bool.true_and, beq_self_eq_true, Bool.and_true,
      List.all_eq_true]
    intro j hj
    exact (bytes j (by rw [length]; exact List.mem_range.mp hj)).cleanAt
  · have received : ((List.range (sts.length + 1)).flatMap fun j => rxByteTrace ((s.afterPairs (2 + 9 * j)).nextPairs 8)
        s.params.makBit (s.pairAt (2 + 9 * j + 8))) = (sts ++ [st]).flatMap fun b => receivedByte s.params b true := by
      rw [flatMap_eq_range, length]
      refine List.flatMap_congr fun j hj => ?_
      have hj : j < (sts ++ [st]).length := by rw [length]; exact List.mem_range.mp hj
      rw [List.getElem?_eq_getElem hj]
      exact (bytes j hj).trace true
    rw [frameSlots, State.pollSlots, received, acks.headerTrace (Nat.le_refl 2), pollTrace, frameTrace]
    simp only [List.append_assoc]

/-- Slave cells that acknowledge an F_WREN: its slots. -/
theorem Acknowledged.wrenTrace {s : State} (h : Acknowledged s 2) :
    frameSlots s.params (s.headerTrace s.params 0x96#8 false) = wrenTrace s.params := by
  rw [frameSlots, h.headerTrace (Nat.le_refl 2), Machine.wrenTrace, frameTrace]
  simp only [List.append_assoc]

/-- Slave cells that acknowledge an F_WRITE: its slots, with the payload `vs` in BUF. -/
theorem Acknowledged.writeTrace {b e : State} {vs : List Byte} (h : Acknowledged e (4 + vs.length)) (params : e.params = b.params)
    (n : b.n = vs.length) (payload : ∀ i, i < vs.length → b.buf.read i = vs[i]?) :
    frameSlots b.params (b.writeSlots e b.n) = writeTrace b.params b.addr vs := by
  have sent : ((List.range vs.length).flatMap fun i =>
      txByteTrace (b.payloadByte i) (makBitOf b.params (payloadMak i vs.length)) (e.pairAt (4 + i))) =
        payloadTrace (sentByte b.params) vs := by
    rw [payloadTrace_eq]
    refine List.flatMap_congr fun i hi => ?_
    have hi := List.mem_range.mp hi
    rw [State.payloadByte, payload i hi, h.pairs (4 + i) (by omega), params]
    rfl
  rw [frameSlots, State.writeSlots, n, sent, ← params, h.addressedTrace (by omega), Machine.writeTrace, frameTrace]
  simp only [List.append_assoc]

/-- Samples that answer the three write frames of an attempt: they are clean, with their slots. -/
theorem write_presented {s b : State} {vs sts : List Byte} {st : Byte} {ls : List Level}
    (h : s.samples = answersAcks s.params 2 ++ (answersAcks s.params (4 + vs.length) ++
      (answersAcks s.params 2 ++ (sts ++ [st]).flatMap (answersByte s.params) ++ ls)))
    (hl : sts.length < 120) (busy : ∀ x, x ∈ sts → x &&& s.params.wipMask ≠ 0#8) (ready : st &&& s.params.wipMask = 0#8)
    (params : b.params = s.params) (n : b.n = vs.length) (payload : ∀ i, i < vs.length → b.buf.read i = vs[i]?) :
    s.writeClean vs.length = true ∧ (s.afterPairs (s.writeCells vs.length)).samples = ls ∧
      (s.afterPairs (s.writeCells vs.length)).free = s.free ∧
      b.writeFrames s = wrenTrace s.params ++ writeTrace s.params b.addr vs ++ pollTrace s.params (sts ++ [st]) := by
  have six : 2 + (4 + vs.length) = 6 + vs.length := by omega
  have params2 := s.afterPairs_params 2
  have params6 := s.afterPairs_params (6 + vs.length)
  obtain ⟨wren, h2, free2⟩ := acknowledged_presented h
  rw [← params2] at h2
  obtain ⟨write, h6, free6⟩ := acknowledged_presented h2
  rw [← s.afterPairs_add, six] at h6 free6
  rw [params2, ← params6] at h6
  obtain ⟨count, clean, polls, rest, free⟩ := poll_presented h6 hl (by rwa [params6]) (by rwa [params6])
  have cells : s.writeCells vs.length = 6 + vs.length + (2 + 9 * (sts.length + 1)) := by rw [State.writeCells, count]
  rw [cells, s.afterPairs_add]
  refine ⟨?_, rest, free.trans (free6.trans free2), ?_⟩
  · rw [State.writeClean, wren.acks, write.acks, clean]
    rfl
  · rw [params6] at polls
    rw [State.writeFrames, write.writeTrace (params2.trans params.symm) n payload, n, count, params, polls, wren.wrenTrace]

/-- Settles O37: the samples make the three write frames clean, with as many status bytes as are presented (`write_presented`), and
the read-back clean with the payload (`read_presented`), so that the first attempt succeeds (`writeAttempts_passed`) with the
slots of its four frames. -/
theorem writeSucceedsWhereTheDeviceAnswers : Obligations.WriteSucceedsWhereTheDeviceAnswers := by
  unfold Obligations.WriteSucceedsWhereTheDeviceAnswers
  intro s len addr vs sts st ls hr hs hb hl hv same hsts busy ready h
  have n : clampLen len = vs.length := hv.symm
  have hw : Written s (clampLen len) := fun i hi => by
    rw [same i (hi.trans_eq n), List.getElem?_eq_getElem (hi.trans_eq n)]
    rfl
  have payload : (s.begunWrite len addr).payload = vs := by
    refine List.ext_getElem? fun i => ?_
    obtain hi | hi := Nat.lt_or_ge i vs.length
    · exact (State.getElem?_payload (s := s.begunWrite len addr) hw (hi.trans_eq n.symm)).trans (same i hi)
    · rw [List.getElem?_eq_none hi, List.getElem?_eq_none (by rw [State.length_payload]; exact n.le.trans hi)]
  obtain ⟨clean, rest, free, frames⟩ := write_presented (s := s) (b := s.begunWrite len addr) (vs := vs) (sts := sts) (st := st)
    (ls := answersRead s.params vs ++ ls) (by rw [h, answersWrite]; simp only [List.append_assoc]) hsts busy ready rfl n same
  have params := s.afterPairs_params (s.writeCells vs.length)
  rw [← params] at rest
  obtain ⟨readClean, bytes, readSlots, last, lastFree⟩ := read_presented rest
  rw [params] at readSlots
  have back : s.readBack vs.length = _ := readAttempts_clean readClean
  have once := writeAttempts_passed (k := 2) clean (by rw [back, bytes]; simp [verifyPasses])
  obtain ⟨v, slots, reaches, done, first⟩ := reaches_writeCommand (addr := addr) hr hs hl hw
  rw [payload, n] at first
  rw [payload] at reaches done
  have traces := first clean readClean bytes
  rw [once] at reaches done
  have answers := done.answers
  rw [back, s.afterPairs_add] at answers
  refine completes_command rfl hb reaches rfl ⟨rfl, fun i hi => ?_, done.buf, rfl, answers.1.trans last,
    answers.2.trans (lastFree.trans free), done.wire.trans ?_⟩
  · exact ((done.passed rfl).1 i (hi.trans_eq n.symm)).trans (same i hi)
  · have length : (s.begunWrite len addr).n = vs.length := n
    rw [traces, frames, State.readFrame, length]
    exact congrArg (fun xs => s.wireAfter (_ ++ xs)) (readSlots addr)

end Sys2Proof.Machine
